-- ==== Sys2Proof/Word.lean ====
section
/-! DEFINITION. The word types of the machine (00_scope.md R9, R10) and the record of four 32-bit values that
CPUID returns. -/

namespace Sys2Proof

/-- A byte, the unit of memory (20_memory.md R60). -/
abbrev Byte := BitVec 8

/-- A 16-bit word: a segment selector, or a 16-bit stack item. -/
abbrev Word := BitVec 16

/-- A 32-bit word: EAX, EIP, EFLAGS. -/
abbrev Dword := BitVec 32

/-- A 64-bit word: RAX, RIP, an MSR. -/
abbrev Qword := BitVec 64

/-- The values of EAX, EBX, ECX and EDX that one execution of CPUID yields (40_cpuid.md R120). -/
structure Quad where
  eax : Dword
  ebx : Dword
  ecx : Dword
  edx : Dword
  deriving DecidableEq, Repr, Inhabited

/-- Four zero registers: the answer of an unsupported leaf (40_cpuid.md R125 item 2). -/
def Quad.zero : Quad := ⟨0, 0, 0, 0⟩

end Sys2Proof
end

