-- ==== Sys2Proof/Config.lean ====
section
/-! DEFINITION. What an implementation fixes: the record `CpuidConfig` of 00_scope.md R6, which a launch supplies
as part of the state (R411), and the free values: opaque constants that stand for every value the spec leaves open.
Also the descriptor record of 20_memory.md R70, which a free value may be. -/

namespace Sys2Proof

/-- The kind of segment a descriptor describes (10_state.md R35, 20_memory.md R70). -/
inductive SegKind where
  /-- a code segment, conforming or not -/
  | code (conforming : Bool)
  /-- a data segment, writable or not -/
  | data (writable : Bool)
  /-- a task-state segment, marked busy or not -/
  | tss (busy : Bool)
  /-- any other descriptor -/
  | other
  deriving DecidableEq, Repr, Inhabited

/-- A descriptor as `fetch_descriptor` yields it and as the hidden part of a segment register holds it
(10_state.md R35, 20_memory.md R70).  The bit-level format is in no source: the fields are data.
DESIGN CHOICE (log 18): unsafe only in the widths of `base` and `limit`. -/
structure Descriptor where
  kind : SegKind
  /-- descriptor privilege level -/
  dpl : BitVec 2
  present : Bool
  base : Dword
  limit : Dword
  /-- the D-bit of a code segment; the size attribute of a stack segment (R66) -/
  db : Bool
  /-- the L-bit of a code segment -/
  long : Bool
  deriving DecidableEq, Repr, Inhabited

/-- One recorded answer of CPUID: leaf, sub-leaf, the four registers (00_scope.md R6, `leaf(a, c, dyn)`). -/
structure LeafRow where
  leaf : Dword
  sub : Dword
  data : Quad
  deriving DecidableEq, Repr, Inhabited

/-- A size of the XSAVE area that leaf 0DH reports while the states `enabled` are enabled (92_eei_decisions.md D22). -/
structure SizeRow where
  enabled : Qword
  size : Dword
  deriving DecidableEq, Repr, Inhabited

/-- The configuration record of 00_scope.md R6, as plain data.  The function `leaf` is held as its recorded rows:
Machine/Leaves.lean computes the function from them and makes every field rule of files 41 and 43 hold by
construction.  The sub-leaf is 0 in the row of a leaf that ignores ECX.  The two fields that depend on enabled
states, EBX of leaf 0DH sub-leaves 0 and 1, are recorded by these states.  Log 1, log 10, log 12. -/
structure CpuidConfig where
  cpuidSupported : Bool
  intel64 : Bool
  /-- `max_basic`: the maximum input value for basic information -/
  maxBasic : Dword
  extImplemented : Bool
  /-- `max_ext`: the maximum input value for extended information -/
  maxExt : Dword
  /-- the 12 ASCII bytes of the vendor string -/
  vendor : Vector Byte 12
  microcodeFacility : Bool
  microcodeSignature : Dword
  rows : List LeafRow
  /-- leaf 0DH sub-leaf 0 EBX, by XCR0 (41_cpuid_basic_leaves.md R209, decision D22) -/
  xsaveSizes : List SizeRow
  /-- leaf 0DH sub-leaf 1 EBX, by XCR0 OR IA32_XSS (41_cpuid_basic_leaves.md R212, decision D22) -/
  xsaveCompactSizes : List SizeRow
  deriving DecidableEq, Repr

/-- "GenuineIntel" in ASCII (41_cpuid_basic_leaves.md R152). -/
def genuineIntel : Vector Byte 12 :=
  #v[0x47, 0x65, 0x6E, 0x75, 0x69, 0x6E, 0x65, 0x49, 0x6E, 0x74, 0x65, 0x6C]

/-- The rows of the spec's reference configuration K (95_test_vectors.md, Part 2). -/
def referenceRows : List LeafRow :=
  [ ⟨0x01, 0, ⟨0x000106A5, 0x05100800, 0x00000000, 0x10080020⟩⟩,
    ⟨0x02, 0, ⟨0x665B5001, 0x00000000, 0x00000000, 0x007A7000⟩⟩,
    ⟨0x04, 0, ⟨0x0C004121, 0x01C0003F, 0x0000003F, 0x00000000⟩⟩,
    ⟨0x0B, 0, ⟨0x00000001, 0x00000002, 0x00000100, 0x00000005⟩⟩,
    ⟨0x0B, 1, ⟨0x00000004, 0x00000008, 0x00000201, 0x00000005⟩⟩,
    ⟨0x80000000, 0, ⟨0x80000008, 0x00000000, 0x00000000, 0x00000000⟩⟩,
    ⟨0x80000001, 0, ⟨0x00000000, 0x00000000, 0x00000001, 0x20100800⟩⟩,
    ⟨0x80000002, 0, ⟨0x20202020, 0x20202020, 0x20202020, 0x6E492020⟩⟩,
    ⟨0x80000003, 0, ⟨0x286C6574, 0x50202952, 0x69746E65, 0x52286D75⟩⟩,
    ⟨0x80000004, 0, ⟨0x20342029, 0x20555043, 0x30303531, 0x007A484D⟩⟩,
    ⟨0x80000006, 0, ⟨0x00000000, 0x00000000, 0x01006040, 0x00000000⟩⟩,
    ⟨0x80000007, 0, ⟨0x00000000, 0x00000000, 0x00000000, 0x00000100⟩⟩,
    ⟨0x80000008, 0, ⟨0x00003024, 0x00000000, 0x00000000, 0x00000000⟩⟩ ]

/-- The spec's reference configuration K (95_test_vectors.md): "a made-up `CpuidConfig` that meets every constraint
of 00_scope.md rule R6".  It is the part that `State.reset` has.  DESIGN CHOICE (log 1): unsafe, so every statement
quantifies over all parts. -/
def referenceConfig : CpuidConfig where
  cpuidSupported := true
  intel64 := true
  maxBasic := 0x0000000B
  extImplemented := true
  maxExt := 0x80000008
  vendor := genuineIntel
  microcodeFacility := true
  microcodeSignature := 0x0000001A
  rows := referenceRows
  xsaveSizes := []
  xsaveCompactSizes := []

/-! ### Free values

Each is opaque: nothing can be proved of its value.  `n` is the index `State.freeCount` of the draw.  A constant of
the part takes the part: what the record does not hold may differ from one part to another. -/

/-- IA32_BIOS_SIGN_ID[31:0] after CPUID: any value (40_cpuid.md R122, decision D8, log 15). -/
opaque Config.freeMsrLow : (n : Nat) → Dword

/-- The bits of RSP above those a narrower load writes (45_iret.md R352, U13, log 25). -/
opaque Config.freeStackHigh : (n : Nat) → Qword

/-- The hidden part of a segment register that holds a NULL selector after IRET; `site` tells the registers apart
(45_iret.md R354, U14, log 26). -/
opaque Config.freeHidden : (n site : Nat) → Descriptor

/-- Which of several applicable exceptions is raised where the spec gives no order (60_exceptions.md R386, U12,
decision D26, log 23). -/
opaque Config.faultChoice : (n : Nat) → Nat

/-- The answer of a sub-leaf of leaf 0FH or 10H that the part does not record: "any value"
(41_cpuid_basic_leaves.md R221, R224, U6, log 11).  A constant of the part: the same at every execution. -/
opaque Config.openSubleaf : (cfg : CpuidConfig) → (leaf sub : Dword) → Quad

/-- ECX[31:16] of leaf 0BH at a level that the part does not record: reserved, any value
(41_cpuid_basic_leaves.md R203, U1, log 11).  A constant of the part. -/
opaque Config.openLevelHigh : (cfg : CpuidConfig) → (sub : Dword) → Word

/-- EBX, ECX and EDX of leaf 80000000H on a part with extended leaves that records no row for it: reserved, any value
(43_cpuid_extended_leaves.md R253, U1, decision D7, log 11).  EAX is not used.  A constant of the part. -/
opaque Config.openMaxExtLeaf : (cfg : CpuidConfig) → Quad

/-- The size of the XSAVE area "required by enabled features in XCR0" where the part does not record it, before the
bounds of 41_cpuid_basic_leaves.md R209 (decision D22, log 12).  A constant of the part. -/
opaque Config.xsaveSize : (cfg : CpuidConfig) → (xcr0 : Qword) → Dword

/-- The size of the XSAVE area "containing all states enabled by XCRO | IA32_XSS" where the part does not record it
(41_cpuid_basic_leaves.md R212, decision D22, log 12).  A constant of the part. -/
opaque Config.xsaveCompactSize : (cfg : CpuidConfig) → (enabled : Qword) → Dword

/-- The canonical test on a part that reports no linear-address width (20_memory.md R69, log 19).  A constant of the
part. -/
opaque Config.openCanonical : (cfg : CpuidConfig) → (a : Qword) → Bool

end Sys2Proof
end

