-- ==== Sys2Proof/Machine/State.lean ====
section
/-! DEFINITION. The machine's state as plain data (10_state.md), the reasons a step stops, and the state after
reset. -/

namespace Sys2Proof.Machine

/-- The sixteen general registers.  CPUID names EAX, EBX, ECX, EDX (10_state.md R20, R21), IRET the stack pointer
(R23); the others are carried unchanged (R24). -/
structure Gprs where
  rax : Qword
  rbx : Qword
  rcx : Qword
  rdx : Qword
  rsp : Qword
  rbp : Qword
  rsi : Qword
  rdi : Qword
  r8 : Qword
  r9 : Qword
  r10 : Qword
  r11 : Qword
  r12 : Qword
  r13 : Qword
  r14 : Qword
  r15 : Qword
  deriving DecidableEq, Repr

/-- A segment register: the 16-bit selector (10_state.md R34) and the hidden part (R35). -/
structure SegReg where
  sel : Word
  hidden : Descriptor
  deriving DecidableEq, Repr

/-- The control registers and debug registers the sources name, field by field (10_state.md R30; CR0.AM:
20_memory.md R64).  A field whose bit position the sources do not give is a Bool.  Fields marked "named only" are
carried unchanged (log 40). -/
structure ControlRegs where
  /-- CR0.PE -/
  pe : Bool
  /-- CR0.AM -/
  am : Bool
  /-- CR3, named only -/
  cr3 : Qword
  /-- CR4.OSXSAVE -/
  osxsave : Bool
  /-- CR4.VME -/
  vme : Bool
  /-- CR4.PVI, named only -/
  pvi : Bool
  /-- CR4.DE, named only -/
  de : Bool
  /-- CR4.PSE, named only -/
  pse : Bool
  /-- CR4.TSD, named only -/
  tsd : Bool
  /-- CR4.MCE, named only -/
  mce : Bool
  /-- CR4.PGE, named only -/
  pge : Bool
  /-- CR4.OSFXSR, named only -/
  osfxsr : Bool
  /-- CR4.PCIDE, named only -/
  pcide : Bool
  /-- XCR0 -/
  xcr0 : Qword
  /-- DR4, named only -/
  dr4 : Qword
  /-- DR5, named only -/
  dr5 : Qword
  deriving DecidableEq, Repr

/-- The model-specific registers the sources name (10_state.md R30).  CPUID reads or writes the first four and
IA32_XSS, IRET reads IA32_EFER.LMA; the others are named only and carried unchanged (log 40).  PRESUMED (log 40): IA32_MISC_ENABLE
and IA32_PLATFORM_DCA_CAP are 64 bits wide, of which the page names bits up to 38 and bits 31:0. -/
structure Msrs where
  /-- IA32_EFER.LMA -/
  lma : Bool
  /-- IA32_BIOS_SIGN_ID (R31) -/
  biosSignId : Qword
  /-- IA32_MISC_ENABLE (bit 22 BOOT_NT4, R32) -/
  miscEnable : Qword
  /-- IA32_PLATFORM_DCA_CAP, address 1F8H -/
  platformDcaCap : Qword
  /-- IA32_XSS -/
  xss : Qword
  /-- IA32_ENERGY_PERF_BIAS, address 1B0H -/
  energyPerfBias : Qword
  mperf : Qword
  aperf : Qword
  perfCapabilities : Qword
  debugInterface : Qword
  tscAdjust : Qword
  tscAux : Qword
  pmEnable : Qword
  hwpCapabilities : Qword
  hwpStatus : Qword
  hwpRequest : Qword
  hwpInterrupt : Qword
  hwpRequestPkg : Qword
  pkgHdcCtl : Qword
  pmCtl1 : Qword
  threadStall : Qword
  pqrAssoc : Qword
  qmEvtsel : Qword
  qmCtr : Qword
  /-- IA32_resourceType_Mask_n, n from 0.  DESIGN CHOICE (log 40): one list for all resource types. -/
  resourceMask : List Qword
  mtrrCap : Qword
  mcgCap : Qword
  deriving DecidableEq, Repr

/-- One place of a descriptor table: the linear address of the descriptor and what the descriptor says
(20_memory.md R70, log 18). -/
structure TableEntry where
  address : Qword
  desc : Descriptor
  deriving DecidableEq, Repr

/-- The system tables IRET reads (10_state.md R37).  An index at or above a table's length is "beyond the
descriptor table limit".  DESIGN CHOICE (log 40): the task register, of which the spec gives no width, is a 16-bit
selector. -/
structure SystemTables where
  /-- the GDT -/
  gdt : List TableEntry
  /-- the local descriptor table -/
  ldt : List TableEntry
  /-- the task register (carried unchanged) -/
  tr : Word
  /-- the link field of the current TSS (45_iret.md R320) -/
  tssLink : Word
  deriving DecidableEq, Repr

/-- A region of linear addresses and where translation takes it: `some p` is the physical address of its first
byte, `none` a page fault (20_memory.md R72, log 20). -/
structure XlatRegion where
  base : Nat
  size : Nat
  target : Option Nat
  deriving DecidableEq, Repr

/-- State of the processor and the platform that no register holds (10_state.md R40, R58; 20_memory.md R63, R68,
R72; 40_cpuid.md R132). -/
structure Platform where
  /-- linear-to-physical translation; an address in no region is its own physical address (log 20) -/
  xlat : List XlatRegion
  /-- base of the local APIC's window, when there is one (log 21) -/
  apicBase : Option Nat
  /-- the limit of the segments a return to virtual-8086 mode loads (log 27) -/
  v86SegLimit : Dword
  /-- the processor is in VMX non-root operation (log 16) -/
  vmxNonRoot : Bool
  /-- the initial APIC ID, fixed from power-up on (70_reset_and_hazards.md R412) -/
  initialApicId : Byte
  /-- the x2APIC ID, fixed from power-up on -/
  x2apicId : Dword
  /-- the leaf 02H repeat counter (10_state.md R49, log 43) -/
  leaf02Repeat : Nat
  deriving DecidableEq, Repr

/-- Memory: the bytes that differ from what an unlisted address reads as, by physical address. -/
abbrev Memory := List Host.Cell

/-- What an unlisted address reads as.  DESIGN CHOICE (log 4): unsafe. -/
def unlistedByte : Byte := 0

/-- The canonical form: addresses strictly rising, no entry equal to what an unlisted address reads as. -/
abbrev Memory.wf (m : Memory) : Prop :=
  m.Pairwise (fun c d => c.1 < d.1) ∧ ∀ c ∈ m, c.2 ≠ unlistedByte

/-- The state of the machine (10_state.md): everything the spec gives it, and `freeCount`, the model's own. -/
structure State where
  gpr : Gprs
  /-- RIP; outside 64-bit mode EIP, zero-extended (10_state.md R25, log 8) -/
  rip : Qword
  /-- EFLAGS, its named bits only (10_state.md R28, U15, log 7) -/
  eflags : Dword
  /-- the current privilege level (10_state.md R36) -/
  cpl : BitVec 2
  cs : SegReg
  ss : SegReg
  ds : SegReg
  es : SegReg
  fs : SegReg
  gs : SegReg
  cr : ControlRegs
  msr : Msrs
  tables : SystemTables
  mem : Memory
  plat : Platform
  /-- the part: constant from power-up on (70_reset_and_hazards.md R412) -/
  cfg : CpuidConfig
  /-- the MODEL's own field: the index of the next free value (log 41) -/
  freeCount : Nat
  deriving DecidableEq, Repr

/-- The error code of an exception (60_exceptions.md R370). -/
inductive ErrorCode where
  /-- no error code (real-address mode) -/
  | none
  /-- the code 0 -/
  | zero
  /-- the selector whose check failed, as popped -/
  | selector (sel : Word)
  deriving DecidableEq, Repr

/-- Why the machine stops with an exception.  "After a raise the model is in a terminal state" (60_exceptions.md
R376), since handler entry is in no source (R390).  The state delivered is the one before the instruction.
All are safe: hardware goes on to a handler, and the model claims nothing of what follows. -/
inductive Fault where
  /-- #UD: CPUID and IRET with a LOCK prefix, CPUID on a part without it (40_cpuid.md R121, 45_iret.md R301).
  Safe: terminal as R376 says. -/
  | ud
  /-- #TS(TSS selector): the checks of a task return (45_iret.md R320).  Safe: terminal. -/
  | ts (sel : Word)
  /-- #NP(selector): IRET, a code segment or TSS not present (45_iret.md R320, R328).  Safe: terminal. -/
  | np (sel : Word)
  /-- #SS: IRET, the stack limit, a non-canonical stack address, or a stack segment not present (45_iret.md R311,
  R315, R345, R349, R360).  Safe: terminal. -/
  | ss (code : ErrorCode)
  /-- #GP: IRET, the selector, descriptor and instruction-pointer checks (45_iret.md R311 to R358).  Safe:
  terminal. -/
  | gp (code : ErrorCode)
  /-- #PF(fault-code), the code opaque: IRET's memory reads (60_exceptions.md R378).  Safe: terminal. -/
  | pf
  /-- #AC(0): IRET's unaligned memory reads (60_exceptions.md R379).  Safe: terminal. -/
  | ac
  deriving DecidableEq, Repr

/-- Why the model gives a step no meaning.  All are safe: a claim about such a step is unprovable. -/
inductive Refusal where
  /-- raised by an arm of exec whose instruction has no meaning yet; no arm does.  Safe. -/
  | notModelled (mnemonic : String)
  /-- raised by step: the bytes match no row of the opcode table (30_encoding.md R104, U23).  Safe. -/
  | notDescribed
  /-- raised by step and by IRETQ's meaning: a REX.W form outside 64-bit mode (30_encoding.md R93, "N.E.").
  Safe. -/
  | notEncodable
  /-- raised by step: no byte can be fetched at the instruction pointer; the fetch rules are in no source
  (decision D17, log 35).  Safe. -/
  | unfetchable
  /-- raised by CPUID: IA32_MISC_ENABLE.BOOT_NT4 = 1 (40_cpuid.md R126, decision D5, U10).  Safe. -/
  | bootNt4
  /-- raised by CPUID: leaf 02H whose AL is not 01H (41_cpuid_basic_leaves.md R171, decision D6, U11).  Safe. -/
  | leaf02Repeat
  /-- raised by CPUID and the interrupt returns: VMX non-root operation (40_cpuid.md R132, 45_iret.md R364, decision
  D14, U17).  Safe. -/
  | vmxNonRoot
  /-- raised by CPUID: the instruction pointer passes the limit (10_state.md R26, U27).  Safe. -/
  | ipPastLimit
  /-- raised by the interrupt returns: a task return whose checks pass (45_iret.md R320, decision D13, U16).  Safe. -/
  | taskSwitch
  /-- raised by the interrupt returns: virtual-8086 mode with CR4.VME = 1 (45_iret.md R317, U24).  Safe. -/
  | v86Vme
  /-- raised by IRET and IRETD: a same-level return of operand size 16 or 32 executed in 64-bit mode (45_iret.md
  R343, decision D10, U25).  Safe. -/
  | sameLevelIn64Bit
  /-- raised by IRETD: an outer-level return in IA-32e mode that would load VM = 1 (45_iret.md R351, decision D25,
  U25).  Safe. -/
  | vmInIa32e
  /-- raised by the interrupt returns: a memory read in the local APIC's window, whose registers are in no source
  (60_exceptions.md R399, log 21).  Safe. -/
  | apicWindow
  deriving DecidableEq, Repr

/-- The hidden part the family's reset gives a data segment register.  PRESUMED (log 2). -/
def resetDataHidden : Descriptor :=
  { kind := .data true, dpl := 0, present := true, base := 0, limit := 0xFFFF, db := false, long := false }

/-- The hidden part the family's reset gives CS.  PRESUMED (log 2). -/
def resetCodeHidden : Descriptor :=
  { kind := .code false, dpl := 0, present := true, base := 0xFFFF0000, limit := 0xFFFF, db := false, long := false }

/-- A data segment register at reset.  PRESUMED (log 2). -/
def resetDataSeg : SegReg := { sel := 0, hidden := resetDataHidden }

/-- The control registers at reset.  PRESUMED (log 2). -/
def resetControl : ControlRegs :=
  { pe := false, am := false, cr3 := 0, osxsave := false, vme := false, pvi := false, de := false, pse := false,
    tsd := false, mce := false, pge := false, osfxsr := false, pcide := false, xcr0 := 1, dr4 := 0xFFFF0FF0,
    dr5 := 0x400 }

/-- The MSRs at reset: BOOT_NT4 = 0 is stated (10_state.md R32); the rest are log 2 and log 3. -/
def resetMsrs : Msrs :=
  { lma := false, biosSignId := 0, miscEnable := 0, platformDcaCap := 0, xss := 0, energyPerfBias := 0, mperf := 0,
    aperf := 0, perfCapabilities := 0, debugInterface := 0, tscAdjust := 0, tscAux := 0, pmEnable := 0,
    hwpCapabilities := 0, hwpStatus := 0, hwpRequest := 0, hwpInterrupt := 0, hwpRequestPkg := 0, pkgHdcCtl := 0,
    pmCtl1 := 0, threadStall := 0, pqrAssoc := 0, qmEvtsel := 0, qmCtr := 0, resourceMask := [], mtrrCap := 0,
    mcgCap := 0 }

/-- The machine right after reset.  The sources state one reset value, BOOT_NT4 = 0 (10_state.md R58, R59); the
registers have the family's values (PRESUMED, log 2), the rest the values of log 1, log 3, log 4 (DESIGN CHOICE):
unsafe, so statements quantify over every state. -/
def State.reset : State where
  gpr :=
    { rax := 0, rbx := 0, rcx := 0, rdx := 0x000106A5, rsp := 0, rbp := 0, rsi := 0, rdi := 0, r8 := 0, r9 := 0,
      r10 := 0, r11 := 0, r12 := 0, r13 := 0, r14 := 0, r15 := 0 }
  rip := 0xFFF0
  eflags := 0
  cpl := 0
  cs := { sel := 0xF000, hidden := resetCodeHidden }
  ss := resetDataSeg
  ds := resetDataSeg
  es := resetDataSeg
  fs := resetDataSeg
  gs := resetDataSeg
  cr := resetControl
  msr := resetMsrs
  tables := { gdt := [], ldt := [], tr := 0, tssLink := 0 }
  mem := []
  plat :=
    { xlat := [], apicBase := some 0xFFFE0000, v86SegLimit := 0xFFFF, vmxNonRoot := false, initialApicId := 5,
      x2apicId := 5, leaf02Repeat := 0 }
  cfg := referenceConfig
  freeCount := 0

end Sys2Proof.Machine
end

