-- ==== Sys2Proof/Syntax.lean ====
section
/-! DEFINITION. The instructions: one constructor per row of spec/opcode_table.json (30_encoding.md R99), and the
operand sizes and code sizes that decoding distinguishes (R96). -/

namespace Sys2Proof

/-- The effective operand size of an interrupt return (30_encoding.md R96). -/
inductive OpSize where
  | w16
  | w32
  | w64
  deriving DecidableEq, Repr

/-- Bytes in one stack item of this operand size (45_iret.md R303). -/
def OpSize.bytes : OpSize → Nat
  | .w16 => 2
  | .w32 => 4
  | .w64 => 8

/-- What the mode and the current code segment fix about decoding: the default operand size, and whether REX
prefixes exist (30_encoding.md R93, R96). -/
inductive CodeSize where
  /-- default operand size 16, no REX prefix -/
  | bits16
  /-- default operand size 32, no REX prefix -/
  | bits32
  /-- 64-bit mode: default operand size 32, REX prefixes -/
  | mode64
  deriving DecidableEq, Repr

/-- The instruction set of the spec.  `rxb` is the three REX bits that are ignored (30_encoding.md R93). -/
inductive Instr where
  /-- CPUID, `0F A2` -/
  | cpuid
  /-- IRET, `CF` with effective operand size 16 -/
  | iret
  /-- IRETD, `CF` with effective operand size 32 -/
  | iretd
  /-- IRETQ, `REX.W + CF` in 64-bit mode -/
  | iretq (rxb : BitVec 3)
  /-- LOCK CPUID, `F0 0F A2` -/
  | lockCpuid
  /-- LOCK IRET or LOCK IRETD, `F0 CF` -/
  | lockIretIretd
  /-- LOCK IRETQ, `F0 REX.W CF` -/
  | lockIretq (rxb : BitVec 3)
  deriving DecidableEq, Repr

end Sys2Proof
end

