-- ==== Sys2Proof/Machine/Flags.lean ====
section
/-! DEFINITION. EFLAGS: the named bits, the masks of 45_iret.md R341 and the one way a flags image is loaded. -/

namespace Sys2Proof.Machine

/-- The flags and fields of EFLAGS (10_state.md R28). -/
inductive Flag where
  | cf | pf | af | zf | sf | tf | intf | df | of | nt | rf | vm | ac | vif | vip | idf
  deriving DecidableEq, Repr

/-- The bit a flag occupies (10_state.md R28; the sources give NT and ID, the others are G1, log 7). -/
def Flag.bit : Flag → Nat
  | .cf => 0
  | .pf => 2
  | .af => 4
  | .zf => 6
  | .sf => 7
  | .tf => 8
  | .intf => 9
  | .df => 10
  | .of => 11
  | .nt => 14
  | .rf => 16
  | .vm => 17
  | .ac => 18
  | .vif => 19
  | .vip => 20
  | .idf => 21

/-- A flag of an EFLAGS value or image. -/
def flagOf (e : Dword) (f : Flag) : Bool := e.getLsbD f.bit

/-- The field IOPL, bits 13:12 (10_state.md R28). -/
def ioplOf (e : Dword) : BitVec 2 := e.extractLsb' 12 2

/-- `A`: CF, PF, AF, ZF, SF, TF, DF, OF, NT (45_iret.md R341). -/
def maskA : Dword := 0x00004DD5
/-- `B`: RF, AC, ID. -/
def maskB : Dword := 0x00250000
/-- `I`: IF. -/
def maskI : Dword := 0x00000200
/-- `P`: IOPL. -/
def maskP : Dword := 0x00003000
/-- `V`: VIF, VIP. -/
def maskV : Dword := 0x00180000
/-- `M`: VM. -/
def maskM : Dword := 0x00020000
/-- Every named flag: A + B + I + P + V + M (45_iret.md R341). -/
def maskNamed : Dword := 0x003F7FD5
/-- The flag ID, bit 21 (10_state.md R27). -/
def maskId : Dword := 0x00200000

/-- The mask when a condition holds, else no bit. -/
def maskIf (b : Bool) (m : Dword) : Dword := if b then m else 0

/-- Real-address mode: bits 15:0 with operand size 16, the page's constant 257FD5H with 32 (45_iret.md R311, R341;
the reserved bits are kept out of the state, U15). -/
def realMask : OpSize → Dword
  | .w16 => 0x0000FFFF &&& maskNamed
  | .w32 => 0x00257FD5
  | .w64 => 0x00257FD5

/-- From virtual-8086 mode: A + I, and B with operand size 32 (45_iret.md R316, R341). -/
def v86Mask : OpSize → Dword
  | .w16 => maskA ||| maskI
  | .w32 => maskA ||| maskB ||| maskI
  | .w64 => maskA ||| maskB ||| maskI

/-- Same level: A, B with operand size 32 or 64, I if CPL <= IOPL, P if CPL = 0, V if CPL = 0 with operand size 32
or 64 (45_iret.md R340, R341). -/
def sameLevelMask (sz : OpSize) (cpl iopl : BitVec 2) : Dword :=
  maskA ||| maskIf (sz != .w16) maskB ||| maskIf (cpl ≤ iopl) maskI ||| maskIf (cpl == 0) maskP
    ||| maskIf (cpl == 0 && sz != .w16) maskV

/-- Outer level: as the same level, and M if CPL = 0 with operand size 32 (45_iret.md R351, R341, decision D11). -/
def outerLevelMask (sz : OpSize) (cpl iopl : BitVec 2) : Dword :=
  maskA ||| maskIf (sz != .w16) maskB ||| maskIf (cpl ≤ iopl) maskI ||| maskIf (cpl == 0) maskP
    ||| maskIf (cpl == 0 && sz != .w16) maskV ||| maskIf (cpl == 0 && sz == .w32) maskM

/-- The bits of EFLAGS software can change on this part: all named bits, but ID only where CPUID exists
(10_state.md R27, 44_cpuid_identification.md R280, U7). -/
def writableMask (cpuidSupported : Bool) : Dword :=
  if cpuidSupported then maskNamed else maskNamed &&& ~~~maskId

/-- `LOAD(m)` of 45_iret.md R341: the bits of the mask come from the image, the others keep their value; ID is
stuck on a part without CPUID, and the reserved bits stay out of the state. -/
def loadFlags (cpuidSupported : Bool) (mask old image : Dword) : Dword :=
  let m := mask &&& writableMask cpuidSupported
  ((old &&& ~~~m) ||| (image &&& m)) &&& maskNamed

end Sys2Proof.Machine
end

