-- ==== Sys2Proof/Machine/Leaves.lean ====
section
/-! DEFINITION. The function `leaf(a, c, dyn)` of 00_scope.md R6, computed from the rows of the part so that every
field rule of 41_cpuid_basic_leaves.md and 43_cpuid_extended_leaves.md holds whatever the rows are: "Reserved = 0"
fields are 0, fields the spec computes are computed, dynamic fields come from `Dyn`, and a "Reserved" field without
"= 0" is whatever the row holds (R150, log 10). -/

namespace Sys2Proof.Machine

/-- The dynamic inputs of CPUID (00_scope.md R7, without BOOT_NT4 and the leaf 02H counter, which only refuse). -/
structure Dyn where
  initialApicId : Byte
  x2apicId : Dword
  osxsave : Bool
  xcr0 : Qword
  xss : Qword
  platformDcaCap : Dword
  deriving DecidableEq, Repr

/-- Bits `hi` down to `lo` of a 32-bit register, as an unsigned number (00_scope.md R9, R12). -/
def field (x : Dword) (hi lo : Nat) : Nat := (x.toNat >>> lo) % 2 ^ (hi + 1 - lo)

/-- One bit of a 32-bit register. -/
def bit (x : Dword) (i : Nat) : Bool := x.getLsbD i

/-- The recorded row of a leaf and sub-leaf. -/
def rowOf (cfg : CpuidConfig) (a c : Dword) : Option Quad :=
  (cfg.rows.find? fun r => r.leaf == a && r.sub == c).map LeafRow.data

/-- The recorded answer, four zeros where none is recorded: an unsupported leaf (40_cpuid.md R125 item 2), and, the
model's convention, a sub-leaf of a supported leaf that the record leaves out (log 10). -/
def rawLeaf (cfg : CpuidConfig) (a c : Dword) : Quad := (rowOf cfg a c).getD Quad.zero

/-- The least index from `k`, within `fuel`, at which `p` holds; `k + fuel` if none. -/
def firstIndex (p : Nat → Bool) : (fuel k : Nat) → Nat
  | 0, k => k
  | fuel + 1, k => if p k then k else firstIndex p fuel (k + 1)

/-- `leaf4_count`: the least sub-leaf index of leaf 04H whose cache type EAX[4:0] is 0 (00_scope.md R6,
41_cpuid_basic_leaves.md R186).  At most as many indices are recorded as there are rows. -/
def leaf04Count (cfg : CpuidConfig) : Nat :=
  firstIndex (fun k => field (rawLeaf cfg 4 (BitVec.ofNat 32 k)).eax 4 0 == 0) cfg.rows.length 0

/-- `leaf0B_levels`: the least sub-leaf index of leaf 0BH whose level type ECX[15:8] is 0 (00_scope.md R6,
41_cpuid_basic_leaves.md R203). -/
def leaf0BLevels (cfg : CpuidConfig) : Nat :=
  firstIndex (fun k => field (rawLeaf cfg 0x0B (BitVec.ofNat 32 k)).ecx 15 8 == 0) cfg.rows.length 0

/-- Four bytes as a register, the first in bits 7:0 (41_cpuid_basic_leaves.md R152, 43_cpuid_extended_leaves.md
R261). -/
def packBytes (b0 b1 b2 b3 : Byte) : Dword := b3 ++ b2 ++ b1 ++ b0

/-- Leaf 00H: maximum basic leaf, and the vendor string in the register order EBX, EDX, ECX
(41_cpuid_basic_leaves.md R151, R152). -/
def leaf00 (cfg : CpuidConfig) : Quad :=
  { eax := cfg.maxBasic
    ebx := packBytes cfg.vendor[0] cfg.vendor[1] cfg.vendor[2] cfg.vendor[3]
    edx := packBytes cfg.vendor[4] cfg.vendor[5] cfg.vendor[6] cfg.vendor[7]
    ecx := packBytes cfg.vendor[8] cfg.vendor[9] cfg.vendor[10] cfg.vendor[11] }

/-- Leaf 01H: EBX[31:24] is the initial APIC ID (R161), ECX bit 27 mirrors CR4.OSXSAVE and ECX bit 31 is 0
(41_cpuid_basic_leaves.md R155, R163, R164). -/
def leaf01 (cfg : CpuidConfig) (dyn : Dyn) : Quad :=
  match rowOf cfg 0x01 0 with
  | none => Quad.zero
  | some q =>
    { eax := q.eax
      ebx := dyn.initialApicId ++ q.ebx.setWidth 24
      ecx := (q.ecx &&& 0x77FFFFFF) ||| (if dyn.osxsave then 0x08000000 else 0)
      edx := q.edx }

/-- Leaf 04H: four zeros from `leaf4_count` on (R186); EDX[31:3] is 0 (R184); EAX[31:26] is the same for every
valid index (41_cpuid_basic_leaves.md R181, R187). -/
def leaf04 (cfg : CpuidConfig) (c : Dword) : Quad :=
  if c.toNat < leaf04Count cfg then
    let q := rawLeaf cfg 0x04 c
    { eax := ((rawLeaf cfg 0x04 0).eax &&& 0xFC000000) ||| (q.eax &&& 0x03FFFFFF)
      ebx := q.ebx
      ecx := q.ecx
      edx := q.edx &&& 0x00000007 }
  else Quad.zero

/-- Leaf 05H: EAX[31:16] and EBX[31:16] are 0 (41_cpuid_basic_leaves.md R188). -/
def leaf05 (cfg : CpuidConfig) : Quad :=
  let q := rawLeaf cfg 0x05 0
  { q with eax := q.eax &&& 0x0000FFFF, ebx := q.ebx &&& 0x0000FFFF }

/-- Leaf 06H: ECX keeps bits 0 and 3, EDX is 0 (41_cpuid_basic_leaves.md R190). -/
def leaf06 (cfg : CpuidConfig) : Quad :=
  let q := rawLeaf cfg 0x06 0
  { q with ecx := q.ecx &&& 0x00000009, edx := 0 }

/-- Leaf 07H: four zeros for every sub-leaf above 0 (41_cpuid_basic_leaves.md R192). -/
def leaf07 (cfg : CpuidConfig) (c : Dword) : Quad :=
  if c = 0 then rawLeaf cfg 0x07 0 else Quad.zero

/-- Leaf 09H: EAX is IA32_PLATFORM_DCA_CAP[31:0] (41_cpuid_basic_leaves.md R195). -/
def leaf09 (cfg : CpuidConfig) (dyn : Dyn) : Quad :=
  match rowOf cfg 0x09 0 with
  | none => Quad.zero
  | some q => { q with eax := dyn.platformDcaCap }

/-- Leaf 0AH: EBX[31:7], ECX and EDX[31:13] are 0 (41_cpuid_basic_leaves.md R197). -/
def leaf0A (cfg : CpuidConfig) : Quad :=
  let q := rawLeaf cfg 0x0A 0
  { eax := q.eax, ebx := q.ebx &&& 0x0000007F, ecx := 0, edx := q.edx &&& 0x00001FFF }

/-- ECX[31:16] of leaf 0BH, reserved: what is recorded, else any value (41_cpuid_basic_leaves.md R203, log 11). -/
def levelHigh (cfg : CpuidConfig) (c : Dword) : Word :=
  match rowOf cfg 0x0B c with
  | some q => q.ecx.extractLsb' 16 16
  | none => Config.openLevelHigh cfg c

/-- Leaf 0BH: ECX[7:0] echoes the input and EDX is the x2APIC ID at every level; below `leaf0B_levels` the level's
record, from there on EAX = EBX = 0 and level type 0 (41_cpuid_basic_leaves.md R200 to R205). -/
def leaf0B (cfg : CpuidConfig) (dyn : Dyn) (c : Dword) : Quad :=
  match rowOf cfg 0x0B 0 with
  | none => Quad.zero
  | some _ =>
    if c.toNat < leaf0BLevels cfg then
      let q := rawLeaf cfg 0x0B c
      { eax := q.eax, ebx := q.ebx, ecx := q.ecx.extractLsb' 8 24 ++ c.setWidth 8, edx := dyn.x2apicId }
    else
      { eax := 0, ebx := 0, ecx := levelHigh cfg c ++ (0 : Byte) ++ c.setWidth 8, edx := dyn.x2apicId }

/-- The valid bits of XCR0: EDX:EAX of leaf 0DH sub-leaf 0 (41_cpuid_basic_leaves.md R209). -/
def xcr0Valid (cfg : CpuidConfig) : Qword :=
  let q := rawLeaf cfg 0x0D 0
  q.edx ++ q.eax

/-- The valid bits of IA32_XSS: EDX:ECX of leaf 0DH sub-leaf 1 (41_cpuid_basic_leaves.md R213). -/
def xssValid (cfg : CpuidConfig) : Qword :=
  let q := rawLeaf cfg 0x0D 1
  q.edx ++ q.ecx

/-- Validity of a leaf 0DH sub-leaf n, n at least 2: its bit is set in one of the two vectors
(41_cpuid_basic_leaves.md R214, R215). -/
def xsaveSubleafValid (cfg : CpuidConfig) (n : Nat) : Bool :=
  (xcr0Valid cfg).getLsbD n || (xssValid cfg).getLsbD n

/-- A size recorded for a vector of enabled states. -/
def recordedSize (rows : List SizeRow) (enabled : Qword) : Option Dword :=
  (rows.find? fun r => r.enabled == enabled).map SizeRow.size

/-- The size required by the features enabled in XCR0, the part's or a free value: at most the size for all supported features, and equal to
it when every supported bit is set (41_cpuid_basic_leaves.md R209, decision D22, log 12). -/
def xsaveEnabledSize (cfg : CpuidConfig) (xcr0 : Qword) : Dword :=
  let full := (rawLeaf cfg 0x0D 0).ecx
  let size := (recordedSize cfg.xsaveSizes xcr0).getD (Config.xsaveSize cfg xcr0)
  if xcr0 &&& xcr0Valid cfg = xcr0Valid cfg then full
  else if size ≤ full then size else full

/-- The size of the area with all states enabled by XCR0 OR IA32_XSS, the part's or a free value
(41_cpuid_basic_leaves.md R212, decision D22, log 12). -/
def xsaveCompactSize (cfg : CpuidConfig) (enabled : Qword) : Dword :=
  (recordedSize cfg.xsaveCompactSizes enabled).getD (Config.xsaveCompactSize cfg enabled)

/-- Leaf 0DH (41_cpuid_basic_leaves.md R209 to R215).  Sub-leaf 1, and a valid sub-leaf above 1, that the part does
not record has 0 in its constant fields (log 10); EBX of sub-leaf 1 is the size all the same. -/
def leaf0D (cfg : CpuidConfig) (dyn : Dyn) (c : Dword) : Quad :=
  match rowOf cfg 0x0D 0 with
  | none => Quad.zero
  | some main =>
    if c = 0 then { main with ebx := xsaveEnabledSize cfg dyn.xcr0 }
    else if c = 1 then { rawLeaf cfg 0x0D 1 with ebx := xsaveCompactSize cfg (dyn.xcr0 ||| dyn.xss) }
    else if xsaveSubleafValid cfg c.toNat then
      let q := rawLeaf cfg 0x0D c
      { q with ecx := (q.ecx &&& 0xFFFFFFFE) ||| (if (xssValid cfg).getLsbD c.toNat then 1 else 0) }
    else Quad.zero

/-- Leaves 0FH and 10H: sub-leaf 0 and every recorded sub-leaf as recorded; of the others the page gives no rule
(41_cpuid_basic_leaves.md R219 to R224, log 11). -/
def leafQos (cfg : CpuidConfig) (a c : Dword) : Quad :=
  match rowOf cfg a 0 with
  | none => Quad.zero
  | some main =>
    if c = 0 then main
    else match rowOf cfg a c with
      | some q => q
      | none => Config.openSubleaf cfg a c

/-- The basic leaves (41_cpuid_basic_leaves.md).  08H, 0CH and 0EH are four zeros (R194, R208, R218); above 10H the
record alone speaks (R226). -/
def basicLeaf (cfg : CpuidConfig) (dyn : Dyn) (a c : Dword) : Quad :=
  if a = 0x00 then leaf00 cfg
  else if a = 0x01 then leaf01 cfg dyn
  else if a = 0x02 then rawLeaf cfg 0x02 0
  else if a = 0x03 then rawLeaf cfg 0x03 0
  else if a = 0x04 then leaf04 cfg c
  else if a = 0x05 then leaf05 cfg
  else if a = 0x06 then leaf06 cfg
  else if a = 0x07 then leaf07 cfg c
  else if a = 0x08 then Quad.zero
  else if a = 0x09 then leaf09 cfg dyn
  else if a = 0x0A then leaf0A cfg
  else if a = 0x0B then leaf0B cfg dyn c
  else if a = 0x0C then Quad.zero
  else if a = 0x0D then leaf0D cfg dyn c
  else if a = 0x0E then Quad.zero
  else if a = 0x0F then leafQos cfg 0x0F c
  else if a = 0x10 then leafQos cfg 0x10 c
  else rawLeaf cfg a 0

/-- Leaf 80000001H: the "Reserved = 0" bits of EDX are 0 (43_cpuid_extended_leaves.md R255 to R257). -/
def leafExt1 (cfg : CpuidConfig) : Quad :=
  let q := rawLeaf cfg 0x80000001 0
  { q with edx := q.edx &&& 0x2C100FFF }

/-- Leaf 80000000H: EAX is the maximum; EBX, ECX and EDX are reserved: what is recorded, else any value
(43_cpuid_extended_leaves.md R253, log 11). -/
def leafMaxExt (cfg : CpuidConfig) : Quad :=
  { (rowOf cfg 0x80000000 0).getD (Config.openMaxExtLeaf cfg) with eax := cfg.maxExt }

/-- The extended leaves (43_cpuid_extended_leaves.md R253 to R268); above 80000008H the record alone speaks
(R270). -/
def extendedLeaf (cfg : CpuidConfig) (a : Dword) : Quad :=
  if a = 0x80000000 then leafMaxExt cfg
  else if a = 0x80000001 then leafExt1 cfg
  else if a = 0x80000005 then Quad.zero
  else if a = 0x80000006 then { Quad.zero with ecx := (rawLeaf cfg a 0).ecx }
  else if a = 0x80000007 then { Quad.zero with edx := (rawLeaf cfg a 0).edx &&& 0x00000100 }
  else if a = 0x80000008 then { Quad.zero with eax := (rawLeaf cfg a 0).eax &&& 0x0000FFFF }
  else rawLeaf cfg a 0

/-- `cfg.leaf(sel, c, dyn)`: the data of a selected leaf (40_cpuid.md R125). -/
def leafData (cfg : CpuidConfig) (dyn : Dyn) (a c : Dword) : Quad :=
  if a < 0x80000000 then basicLeaf cfg dyn a c else extendedLeaf cfg a

/-- `select_leaf`: the leaf whose data an input EAX returns; all comparisons unsigned (40_cpuid.md R124). -/
def selectLeaf (cfg : CpuidConfig) (a : Dword) : Dword :=
  if a ≤ cfg.maxBasic then a
  else if cfg.extImplemented = true ∧ 0x80000000 ≤ a ∧ a ≤ cfg.maxExt then a
  else cfg.maxBasic

/-- Everything CPUID returns for an input (EAX, ECX): R124 and R125 together. -/
def cpuidAnswer (cfg : CpuidConfig) (dyn : Dyn) (a c : Dword) : Quad := leafData cfg dyn (selectLeaf cfg a) c

/-- The configuration's leaf 02H asks for more than one execution, which the spec refuses: the leaf is recorded and
its AL is not 01H (41_cpuid_basic_leaves.md R171, decision D6, log 13). -/
def leaf02Repeats (cfg : CpuidConfig) : Bool :=
  match rowOf cfg 0x02 0 with
  | none => false
  | some q => field q.eax 7 0 != 1

/-- The linear-address width the part reports: CPUID.80000008H:EAX[15:8] (43_cpuid_extended_leaves.md R268), 0 when
that leaf is out of range. -/
def linearAddressBits (cfg : CpuidConfig) : Nat :=
  if cfg.extImplemented = true ∧ 0x80000008 ≤ cfg.maxExt then field (extendedLeaf cfg 0x80000008).eax 15 8 else 0

/-- The part reports an on-chip APIC: leaf 01H EDX bit 9 (41_cpuid_basic_leaves.md R165). -/
def hasApic (cfg : CpuidConfig) : Bool := bit (rawLeaf cfg 0x01 0).edx 9

end Sys2Proof.Machine
end

