-- ==== Sys2Proof/Machine/Operands.lean ====
section
/-! DEFINITION. The operating mode and every implicit operand of the instructions: CPUID's registers and dynamic
inputs, the selectors, the stack pointer and the addresses of the stack items (no encoding has an explicit operand,
30_encoding.md R94). -/

namespace Sys2Proof.Machine

/-! ### Modes -/

/-- The operating modes (45_iret.md R305, R306). -/
inductive Mode where
  | realAddress
  | protectedMode
  | virtual8086
  | compatibility
  | bits64
  deriving DecidableEq, Repr

/-- The operating mode as a function of CR0.PE, IA32_EFER.LMA, EFLAGS.VM and the L-bit of the current code segment
(45_iret.md R305, R306). -/
def modeOf (s : State) : Mode :=
  if s.cr.pe = false then .realAddress
  else if s.msr.lma = false then (if flagOf s.eflags .vm then .virtual8086 else .protectedMode)
  else if s.cs.hidden.long then .bits64 else .compatibility

/-- 64-bit mode. -/
def inBits64 (s : State) : Bool := modeOf s == .bits64

/-- The code size of the current mode and code segment: 16 in real-address and virtual-8086 mode, the D-bit in
protected and compatibility mode, 64-bit mode on its own (30_encoding.md R96, log 33). -/
def codeSizeOf (s : State) : CodeSize :=
  match modeOf s with
  | .realAddress => .bits16
  | .virtual8086 => .bits16
  | .protectedMode => if s.cs.hidden.db then .bits32 else .bits16
  | .compatibility => if s.cs.hidden.db then .bits32 else .bits16
  | .bits64 => .mode64

/-! ### General registers -/

/-- The low 32 bits of a 64-bit register (00_scope.md R10). -/
def low32 (x : Qword) : Dword := x.setWidth 32

/-- EAX, the leaf number (40_cpuid.md R120); bits 63:32 of RAX are ignored (10_state.md R21). -/
def leafInput (s : State) : Dword := low32 s.gpr.rax

/-- ECX, the sub-leaf number (40_cpuid.md R120). -/
def subleafInput (s : State) : Dword := low32 s.gpr.rcx

/-- AL, BL, CL, DL are the low bytes (10_state.md R22); this is the alias of any of the four. -/
def lowByte (x : Qword) : Byte := x.setWidth 8

/-- The dynamic inputs of CPUID, read from the state (00_scope.md R7). -/
def dynOf (s : State) : Dyn :=
  { initialApicId := s.plat.initialApicId
    x2apicId := s.plat.x2apicId
    osxsave := s.cr.osxsave
    xcr0 := s.cr.xcr0
    xss := s.msr.xss
    platformDcaCap := low32 s.msr.platformDcaCap }

/-- IA32_MISC_ENABLE.BOOT_NT4, bit 22 (10_state.md R32). -/
def bootNt4 (s : State) : Bool := s.msr.miscEnable.getLsbD 22

/-! ### Selectors (10_state.md R34: RPL bits 1:0, table indicator bit 2, index bits 15:3) -/

/-- Requested privilege level of a selector. -/
def rplOf (sel : Word) : BitVec 2 := sel.extractLsb' 0 2

/-- The local/global bit: true for a local table. -/
def isLocal (sel : Word) : Bool := sel.getLsbD 2

/-- The index into a descriptor table. -/
def indexOf (sel : Word) : Nat := (sel.extractLsb' 3 13).toNat

/-- A NULL selector: index and table bit are 0, that is 0000H to 0003H (45_iret.md R322). -/
def isNull (sel : Word) : Bool := (sel.extractLsb' 2 14) == 0

/-- The descriptor describes a code segment. -/
def isCode (d : Descriptor) : Bool :=
  match d.kind with
  | .code _ => true
  | .data _ => false
  | .tss _ => false
  | .other => false

/-- The descriptor describes a writable data segment. -/
def isWritableData (d : Descriptor) : Bool := d.kind == .data true

/-- "data or non-conforming code segment" (45_iret.md R354). -/
def isDataOrNonconforming (d : Descriptor) : Bool :=
  match d.kind with
  | .code conforming => !conforming
  | .data _ => true
  | .tss _ => false
  | .other => false

/-! ### Linear addresses -/

/-- A linear address is 64 bits in 64-bit mode and 32 bits elsewhere, that of a descriptor too: in compatibility mode
its upper half is dropped, although R330 tests all 64 bits (DESIGN CHOICE, log 24). -/
def wrapLinear (s : State) (a : Qword) : Qword := if inBits64 s then a else (low32 a).setWidth 64

/-- The canonical test: bits 63 down to L-1 are all equal, L the linear-address width the part reports; a free
value where it reports none (20_memory.md R69, log 19). -/
def isCanonical (cfg : CpuidConfig) (a : Qword) : Bool :=
  let l := linearAddressBits cfg
  if l = 0 ∨ 64 < l then Config.openCanonical cfg a
  else (a.toNat >>> (l - 1) == 0) || (a.toNat >>> (l - 1) == 2 ^ (65 - l) - 1)

/-! ### The stack (20_memory.md R66) -/

/-- The low bits of RSP that address the stack: RSP in 64-bit mode, else ESP or SP by the stack segment's size
attribute (20_memory.md R66, log 24). -/
def stackMask (s : State) : Qword :=
  if inBits64 s then 0xFFFFFFFFFFFFFFFF
  else if s.ss.hidden.db then 0x00000000FFFFFFFF
  else 0x000000000000FFFF

/-- The stack offset `off` bytes above the top of the stack, modulo the stack's address size. -/
def stackOffset (s : State) (off : Nat) : Qword := (s.gpr.rsp + BitVec.ofNat 64 off) &&& stackMask s

/-- The linear address of that offset: SS.base, 0 in 64-bit mode, plus the offset (20_memory.md R66). -/
def stackLinear (s : State) (off : Nat) : Qword :=
  if inBits64 s then stackOffset s off
  else wrapLinear s (s.ss.hidden.base.setWidth 64 + stackOffset s off)

/-- `within_stack_limits(k)` at `off` bytes above the top: the `k` bytes lie inside the limit held in the hidden part
of SS (20_memory.md R67, log 17). -/
def withinStackLimits (s : State) (off k : Nat) : Bool :=
  (stackOffset s off).toNat + k ≤ s.ss.hidden.limit.toNat + 1

/-- `within_cs_limit(seg, ip)`: the instruction pointer is inside the segment's limit (20_memory.md R68, log 17). -/
def withinCsLimit (limit : Dword) (ip : Qword) : Bool := ip.toNat ≤ limit.toNat

/-- RSP after `k` bytes are popped: the pointer advances modulo the stack's address size, the bits above it are
untouched (20_memory.md R66). -/
def rspAfterPop (s : State) (k : Nat) : Qword :=
  (s.gpr.rsp &&& ~~~stackMask s) ||| stackOffset s k

end Sys2Proof.Machine
end

