-- ==== Sys2Proof/Machine/Ops.lean ====
section
/-! DEFINITION. The named operations over memory, the stack, the descriptor tables and the registers, raising an
exception, and the checks every interrupt return shares. -/

namespace Sys2Proof.Machine

/-! ### Ending an instruction -/

/-- Why an instruction ends without a next state. -/
inductive Stop where
  | fault (f : Fault)
  | refuse (r : Refusal)
  deriving DecidableEq, Repr

/-- A part of an instruction: a value, or a stop.  Nothing of a stopped instruction is kept (60_exceptions.md
R376). -/
abbrev Result (α : Type) := Except Stop α

/-- `raise #XX(code)`, the one operation that takes an exception: the instruction ends and the machine stops with
the fault, in the state of before the instruction; handler entry is in no source (60_exceptions.md R376, R390,
decision D1, log 6). -/
def raise (f : Fault) : Host.Outcome State Fault Refusal := .fault f

/-- The outcome of an instruction. -/
def finish : Result State → Host.Outcome State Fault Refusal
  | .ok s => .next s
  | .error (.fault f) => raise f
  | .error (.refuse r) => .refused r

/-- Raise `f` when `b` holds. -/
def raiseIf (b : Bool) (f : Fault) : Result Unit := if b then .error (.fault f) else .ok ()

/-- Refuse with `r` when `b` holds. -/
def refuseIf (b : Bool) (r : Refusal) : Result Unit := if b then .error (.refuse r) else .ok ()

/-- Raise one of the exceptions that apply; where several do and the spec gives no order, a free choice picks
(60_exceptions.md R386, decision D26, log 23). -/
def raiseOneOf (s : State) : List Fault → Result Unit
  | [] => .ok ()
  | [f] => .error (.fault f)
  | f :: g :: rest =>
    .error (.fault ((f :: g :: rest).getD (Config.faultChoice s.freeCount % (rest.length + 2)) f))

/-! ### State updates -/

def State.setRip (s : State) (v : Qword) : State := { s with rip := v }
def State.setEflags (s : State) (v : Dword) : State := { s with eflags := v }
def State.setCpl (s : State) (v : BitVec 2) : State := { s with cpl := v }
def State.setCs (s : State) (v : SegReg) : State := { s with cs := v }
def State.setSs (s : State) (v : SegReg) : State := { s with ss := v }
def State.setDs (s : State) (v : SegReg) : State := { s with ds := v }
def State.setEs (s : State) (v : SegReg) : State := { s with es := v }
def State.setFs (s : State) (v : SegReg) : State := { s with fs := v }
def State.setGs (s : State) (v : SegReg) : State := { s with gs := v }
def State.setGpr (s : State) (v : Gprs) : State := { s with gpr := v }
def State.setRsp (s : State) (v : Qword) : State := { s with gpr := { s.gpr with rsp := v } }
def State.setBiosSignId (s : State) (v : Qword) : State := { s with msr := { s.msr with biosSignId := v } }
def State.setMem (s : State) (m : Memory) : State := { s with mem := m }

/-- The next free value's index (log 41). -/
def State.nextFree (s : State) : State := { s with freeCount := s.freeCount + 1 }

/-! ### Registers -/

/-- `R[reg] <- v` on the old 64-bit register: zero-extended on an Intel 64 processor in all modes, otherwise the
32-bit register becomes `v` (40_cpuid.md R128, decision D19). -/
def writeReg32 (intel64 : Bool) (old : Qword) (v : Dword) : Qword :=
  if intel64 then v.setWidth 64 else old.extractLsb' 32 32 ++ v

/-- All four registers written, whatever the leaf (40_cpuid.md R128). -/
def writeQuad (intel64 : Bool) (g : Gprs) (q : Quad) : Gprs :=
  { g with
    rax := writeReg32 intel64 g.rax q.eax
    rbx := writeReg32 intel64 g.rbx q.ebx
    rcx := writeReg32 intel64 g.rcx q.ecx
    rdx := writeReg32 intel64 g.rdx q.edx }

/-- IA32_BIOS_SIGN_ID after CPUID: the signature in the upper half, any value in the lower, on a processor with the
microcode update facility; else the old value (40_cpuid.md R122, decision D8). -/
def updatedSignId (s : State) : Qword :=
  if s.cfg.microcodeFacility then s.cfg.microcodeSignature ++ Config.freeMsrLow s.freeCount else s.msr.biosSignId

/-- The instruction pointer after an instruction of `len` bytes that completes in order; refused where it would
pass the limit of the code segment, or the top of the address space in 64-bit mode (10_state.md R26, decisions D9,
D17).  DESIGN CHOICE (log 9): that top is 2 to the 64; an advance that only leaves the canonical range completes. -/
def advancedRip (s : State) (len : Nat) : Result Qword :=
  if inBits64 s then
    (if s.rip.toNat + len < 2 ^ 64 then .ok (s.rip + BitVec.ofNat 64 len) else .error (.refuse .ipPastLimit))
  else
    (if s.rip.toNat + len ≤ s.cs.hidden.limit.toNat then .ok (s.rip + BitVec.ofNat 64 len)
     else .error (.refuse .ipPastLimit))

/-- The serialising effect of CPUID: everything earlier is complete before the next fetch.  One instruction runs to
completion at a time, so nothing is ever incomplete (20_memory.md R78, 10_state.md R40 item 4, log 44). -/
def serialise (s : State) : State := s

/-! ### Memory -/

/-- The byte at a physical address. -/
def Memory.read (m : Memory) (a : Nat) : Byte :=
  match m.find? fun c => c.1 == a with
  | some c => c.2
  | none => unlistedByte

/-- A byte stored, in canonical form (00_scope.md R10 `MemWrite`; no instruction stores, so only the loading of a
program uses it). -/
def Memory.write : Memory → (a : Nat) → (b : Byte) → Memory
  | [], a, b => if b = unlistedByte then [] else [(a, b)]
  | (k, v) :: m, a, b =>
    if a < k then (if b = unlistedByte then (k, v) :: m else (a, b) :: (k, v) :: m)
    else if a = k then (if b = unlistedByte then m else (a, b) :: m)
    else (k, v) :: Memory.write m a b

/-- Translation of a linear address to a physical one, `none` a page fault.  There is none in real-address mode
(20_memory.md R72, 60_exceptions.md R378, log 20).  DESIGN CHOICE (log 20): a physical address past the width that
CPUID.80000008H:EAX[7:0] reports (R39, R60) is read as any other. -/
def translate (s : State) (a : Qword) : Option Nat :=
  if modeOf s = .realAddress then some a.toNat
  else match s.plat.xlat.find? fun r => r.base ≤ a.toNat && a.toNat < r.base + r.size with
    | none => some a.toNat
    | some r => r.target.map fun p => p + (a.toNat - r.base)

/-- The physical address lies in the local APIC's window (20_memory.md R63, log 21). -/
def inApicWindow (s : State) (p : Nat) : Bool :=
  match s.plat.apicBase with
  | none => false
  | some b => hasApic s.cfg && b ≤ p && p < b + 0x1000

/-- The byte at a linear address; a byte that cannot be translated reads as an unlisted one, but no value of it is
used: the access faults first. -/
def byteAt (s : State) (a : Qword) : Byte :=
  match translate s (wrapLinear s a) with
  | some p => s.mem.read p
  | none => unlistedByte

/-- The `n` bytes from a linear address as a number, little-endian (20_memory.md R62, decision D2).  In
64-bit mode the byte after the top of the address space is the byte at 0 (DESIGN CHOICE, log 24). -/
def memReadNat (s : State) (a : Qword) : (n : Nat) → Nat
  | 0 => 0
  | n + 1 => (byteAt s a).toNat + 256 * memReadNat s (a + 1) n

/-- `MemRead(addr, n)` (00_scope.md R10). -/
def memRead (s : State) (a : Qword) (n : Nat) : Qword := BitVec.ofNat 64 (memReadNat s a n)

/-- The linear addresses of the bytes of an access; they wrap at the top of the address space (DESIGN CHOICE, log
24). -/
def accessBytes (s : State) (a : Qword) (n : Nat) : List Qword :=
  (List.range n).map fun k => wrapLinear s (a + BitVec.ofNat 64 k)

/-- An access page-faults: one of its bytes does not translate (60_exceptions.md R378). -/
def pageFaults (s : State) (a : Qword) (n : Nat) : Bool :=
  (accessBytes s a n).any fun x => (translate s x).isNone

/-- An access touches the local APIC's window. -/
def touchesApic (s : State) (a : Qword) (n : Nat) : Bool :=
  (accessBytes s a n).any fun x =>
    match translate s x with
    | some p => inApicWindow s p
    | none => false

/-- Alignment checking applies: EFLAGS.AC and CR0.AM, at CPL 3, or in virtual-8086 mode; never in real-address mode
(20_memory.md R64, 60_exceptions.md R379, log 22). -/
def alignmentChecked (s : State) : Bool :=
  flagOf s.eflags .ac && s.cr.am &&
    (match modeOf s with
     | .realAddress => false
     | .virtual8086 => true
     | .protectedMode => s.cpl == 3
     | .compatibility => s.cpl == 3
     | .bits64 => s.cpl == 3)

/-- An access raises #AC: checked, and the address is no multiple of the width (20_memory.md R64). -/
def misaligned (s : State) (a : Qword) (n : Nat) : Bool := alignmentChecked s && a.toNat % n != 0

/-! ### The stack -/

/-- Stack item `k` of a frame of this operand size, counted from the top of the stack (20_memory.md R66,
45_iret.md R303). -/
def frameItem (s : State) (sz : OpSize) (k : Nat) : Qword := memRead s (stackLinear s (k * sz.bytes)) sz.bytes

/-- The addresses of `count` items from item `first`. -/
def frameAddrs (s : State) (sz : OpSize) (first count : Nat) : List Qword :=
  (List.range count).map fun k => stackLinear s ((first + k) * sz.bytes)

/-- The test on a group of items before it is popped: the stack limit, or in 64-bit mode that every byte popped has
a canonical address (20_memory.md R67, 45_iret.md R360).  `code` is the error code of #SS in this mode. -/
def stackTest (s : State) (sz : OpSize) (first count : Nat) (code : ErrorCode) : List Fault :=
  if inBits64 s then
    (if (frameAddrs s sz first count).all fun a => (accessBytes s a sz.bytes).all (isCanonical s.cfg) then []
     else [.ss code])
  else if withinStackLimits s (first * sz.bytes) (count * sz.bytes) then [] else [.ss code]

/-- The memory faults of reading a group of items (45_iret.md R362): none in real-address mode, since translation
and alignment checking raise none there (60_exceptions.md R381). -/
def frameFaults (s : State) (sz : OpSize) (first count : Nat) : List Fault :=
  (if (frameAddrs s sz first count).any fun a => misaligned s a sz.bytes then [.ac] else [])
    ++ (if (frameAddrs s sz first count).any fun a => pageFaults s a sz.bytes then [.pf] else [])

/-- A group of items touches the local APIC's window. -/
def frameTouchesApic (s : State) (sz : OpSize) (first count : Nat) : Bool :=
  (frameAddrs s sz first count).any fun a => touchesApic s a sz.bytes

/-- What must hold before a group of items is used: no stack test fails and no read faults, in no order between the
two (60_exceptions.md R386), and no read reaches the APIC window. -/
def popGroup (s : State) (sz : OpSize) (first count : Nat) (segmentTests : List Fault) : Result Unit := do
  raiseOneOf s (segmentTests ++ frameFaults s sz first count)
  refuseIf (frameTouchesApic s sz first count) .apicWindow

/-! ### Descriptors (20_memory.md R70) -/

/-- The place a selector names in its table, `none` beyond the table's limit. -/
def tableEntry (s : State) (sel : Word) : Option TableEntry :=
  (if isLocal sel then s.tables.ldt else s.tables.gdt)[indexOf sel]?

/-- The descriptor a selector names; meaningful where `fetchFaults` is empty. -/
def descriptorOf (s : State) (sel : Word) : Descriptor :=
  match tableEntry s sel with
  | some e => e.desc
  | none => default

/-- Why a descriptor cannot be fetched: beyond the table limit (45_iret.md R323, R347); in IA-32e mode a
non-canonical descriptor address (R330); a fault of reading its 8 bytes (R362, log 18).  The canonical
test takes all 64 bits of the address, the read in compatibility mode the low 32 (DESIGN CHOICE, log 24).  The test is made
of the address of the first byte alone, not of the other seven (DESIGN CHOICE, log 18). -/
def fetchFaults (s : State) (sel : Word) : List Fault :=
  match tableEntry s sel with
  | none => [.gp (.selector sel)]
  | some e =>
    (if s.msr.lma && !isCanonical s.cfg e.address then [.gp (.selector sel)] else [])
      ++ (if misaligned s e.address 8 then [.ac] else [])
      ++ (if pageFaults s e.address 8 then [.pf] else [])

/-- Reading the descriptor reaches the APIC window. -/
def fetchTouchesApic (s : State) (sel : Word) : Bool :=
  match tableEntry s sel with
  | none => false
  | some e => touchesApic s e.address 8

/-- `fetch_descriptor(sel)`. -/
def fetchDescriptor (s : State) (sel : Word) : Result Descriptor := do
  raiseOneOf s (fetchFaults s sel)
  refuseIf (fetchTouchesApic s sel) .apicWindow
  return descriptorOf s sel

/-! ### Segment registers -/

/-- CS loaded in real-address or virtual-8086 mode: the selector, and a base of selector * 16; limit and attributes
stay (45_iret.md R313, log 27). -/
def loadCsRealStyle (old : SegReg) (sel : Word) : SegReg :=
  { sel := sel, hidden := { old.hidden with base := sel.setWidth 32 <<< 4 } }

/-- The hidden part of a segment loaded on a return to virtual-8086 mode: a base of selector * 16 (45_iret.md R333);
the limit of the platform and the family's attributes (PRESUMED, log 27). -/
def v86Hidden (s : State) (kind : SegKind) (sel : Word) : Descriptor :=
  { kind := kind, dpl := 3, present := true, base := sel.setWidth 32 <<< 4, limit := s.plat.v86SegLimit,
    db := false, long := false }

/-- A data segment register after a return to a less privileged level: NULL, with any hidden part, when it holds a
data or non-conforming code segment of a DPL below the new CPL (45_iret.md R354, log 26). -/
def invalidated (n site : Nat) (newCpl : BitVec 2) (r : SegReg) : SegReg :=
  if !isNull r.sel && isDataOrNonconforming r.hidden && r.hidden.dpl < newCpl then
    { sel := 0, hidden := Config.freeHidden n site }
  else r

/-- The stack pointer loaded from a frame: RSP with operand size 64; ESP with 32, the upper half of RSP any value
on an Intel 64 processor; SP with 16, the rest of ESP any value too (45_iret.md R334, R352, U13, log 25). -/
def loadedRsp (s : State) (sz : OpSize) (v : Qword) : Qword :=
  let free := Config.freeStackHigh s.freeCount
  let upper := if s.cfg.intel64 then free else s.gpr.rsp
  match sz with
  | .w64 => v
  | .w32 => (upper &&& 0xFFFFFFFF00000000) ||| (v &&& 0x00000000FFFFFFFF)
  | .w16 => (upper &&& 0xFFFFFFFF00000000) ||| (free &&& 0x00000000FFFF0000) ||| (v &&& 0x000000000000FFFF)

end Sys2Proof.Machine
end

