-- ==== Sys2Proof/Machine/Cpuid.lean ====
section
/-! DEFINITION. The instruction CPUID (40_cpuid.md). -/

namespace Sys2Proof.Machine

/-- What CPUID returns in a state: the selected leaf's data for EAX and ECX as they are before any write
(40_cpuid.md R123 to R125). -/
def cpuidResult (s : State) : Quad := cpuidAnswer s.cfg (dynOf s) (leafInput s) (subleafInput s)

/-- The answer would be leaf 02H of a configuration that asks for more than one execution
(41_cpuid_basic_leaves.md R171). -/
def repeatsLeaf02 (s : State) : Bool := selectLeaf s.cfg (leafInput s) == 0x02 && leaf02Repeats s.cfg

/-- The state CPUID leaves, given the advanced instruction pointer: the four registers, the signature MSR and the
instruction pointer, nothing else (40_cpuid.md R120; no flag, no memory). -/
def cpuidNext (s : State) (rip : Qword) : State :=
  ((((s.setGpr (writeQuad s.cfg.intel64 s.gpr (cpuidResult s))).setBiosSignId (updatedSignId s)).setRip rip).nextFree)

/-- CPUID: the pseudocode of 40_cpuid.md R120.  No privilege and no mode test (R132). -/
def execCpuid (s : State) : Host.Outcome State Fault Refusal :=
  finish do
    raiseIf (!s.cfg.cpuidSupported) .ud
    refuseIf s.plat.vmxNonRoot .vmxNonRoot
    refuseIf (bootNt4 s) .bootNt4
    refuseIf (repeatsLeaf02 s) .leaf02Repeat
    let rip ← advancedRip s 2
    return serialise (cpuidNext s rip)

end Sys2Proof.Machine
end

