-- ==== Sys2Proof/Machine/InterruptReturn.lean ====
section
/-! DEFINITION. The interrupt returns IRET, IRETD, IRETQ (45_iret.md): one procedure per label of the pseudocode,
and the three instructions over it. -/

namespace Sys2Proof.Machine

/-! ### The frame at the top of the stack (60_exceptions.md R391) -/

/-- `tempEIP` or `tempRIP`: item 0, zero-extended (45_iret.md R303). -/
def frameIp (s : State) (sz : OpSize) : Qword := frameItem s sz 0

/-- `tempCS`: the low 16 bits of item 1. -/
def frameCs (s : State) (sz : OpSize) : Word := (frameItem s sz 1).setWidth 16

/-- `tempEFLAGS`: item 2, of which the named flags are used (10_state.md R28). -/
def frameFlags (s : State) (sz : OpSize) : Dword := (frameItem s sz 2).setWidth 32

/-- `tempSP`, `tempESP` or `tempRSP`: item 3. -/
def frameSp (s : State) (sz : OpSize) : Qword := frameItem s sz 3

/-- `tempSS`: the low 16 bits of item 4. -/
def frameSs (s : State) (sz : OpSize) : Word := (frameItem s sz 4).setWidth 16

/-- A selector in item `k`: its low 16 bits. -/
def frameSel (s : State) (sz : OpSize) (k : Nat) : Word := (frameItem s sz k).setWidth 16

/-- The flags image loaded under a mask (45_iret.md R341). -/
def flagsLoaded (s : State) (mask image : Dword) : Dword := loadFlags s.cfg.cpuidSupported mask s.eflags image

/-- The image of the instruction pointer can be read ahead of the pops: the read neither page-faults nor reaches the
APIC window (log 21, log 23). -/
def readsIpAhead (s : State) (sz : OpSize) : Bool :=
  !pageFaults s (stackLinear s 0) sz.bytes && !touchesApic s (stackLinear s 0) sz.bytes

/-! ### Real-address mode -/

/-- The state a return in real-address mode leaves (45_iret.md R311, R313). -/
def realAddressNext (s : State) (sz : OpSize) : State :=
  ((((s.setRip (frameIp s sz)).setCs (loadCsRealStyle s.cs (frameCs s sz))).setEflags
    (flagsLoaded s (realMask sz) (frameFlags s sz))).setRsp (rspAfterPop s (3 * sz.bytes)))

/-- A bad instruction pointer in real-address mode: outside the segment's limit or, with operand size 32, with a bit
above 15 set (45_iret.md R311, R312). -/
def badRealIp (s : State) (sz : OpSize) : Bool :=
  !withinCsLimit s.cs.hidden.limit (frameIp s sz) || 0xFFFF < (frameIp s sz).toNat

/-- The segment tests of a return in real-address mode: #SS, then #GP on the image read ahead, before the pops; neither
has an error code (45_iret.md R311, R312; 90_conflicts.md C10, C17). -/
def realSegmentTests (s : State) (sz : OpSize) : List Fault :=
  if stackTest s sz 0 3 .none ≠ [] then stackTest s sz 0 3 .none
  else if readsIpAhead s sz && badRealIp s sz then [.gp .none]
  else []

/-- REAL-ADDRESS-MODE (45_iret.md R311, R312). -/
def realAddressReturn (s : State) (sz : OpSize) : Result State := do
  popGroup s sz 0 3 (realSegmentTests s sz)
  return realAddressNext s sz

/-! ### Virtual-8086 mode -/

/-- The segment tests of a return in virtual-8086 mode: the stack limit, then the limit of CS on the image read
ahead (45_iret.md R316). -/
def v86SegmentTests (s : State) (sz : OpSize) : List Fault :=
  if stackTest s sz 0 3 .zero ≠ [] then stackTest s sz 0 3 .zero
  else if readsIpAhead s sz && !withinCsLimit s.cs.hidden.limit (frameIp s sz) then [.gp .zero]
  else []

/-- The state a return in virtual-8086 mode leaves; CPL stays (45_iret.md R316). -/
def virtual8086Next (s : State) (sz : OpSize) : State :=
  ((((s.setRip (frameIp s sz)).setCs (loadCsRealStyle s.cs (frameCs s sz))).setEflags
    (flagsLoaded s (v86Mask sz) (frameFlags s sz))).setRsp (rspAfterPop s (3 * sz.bytes)))

/-- RETURN-FROM-VIRTUAL-8086-MODE (45_iret.md R316, R317): IOPL below 3 traps to the monitor with #GP(0) and reads
nothing; CR4.VME = 1 is refused (U24). -/
def virtual8086Return (s : State) (sz : OpSize) : Result State := do
  refuseIf s.cr.vme .v86Vme
  raiseIf (ioplOf s.eflags != 3) (.gp .zero)
  popGroup s sz 0 3 (v86SegmentTests s sz)
  return virtual8086Next s sz

/-! ### Task return -/

/-- TASK-RETURN (45_iret.md R320): the checks on the TSS that the link field names, then a refusal, since
SWITCH-TASKS is in no source (decision D13). -/
def taskReturn (s : State) : Result State := do
  let link := s.tables.tssLink
  raiseIf (isLocal link || (tableEntry s link).isNone) (.ts link)
  let d ← fetchDescriptor s link
  raiseIf (d.kind != .tss true) (.ts link)
  raiseIf (!d.present) (.np link)
  .error (.refuse .taskSwitch)

/-! ### Return to virtual-8086 mode -/

/-- The segment tests of a return to virtual-8086 mode: 24 more bytes on the stack, then the 16-bit instruction
pointer within the limit of the code segment returned to (45_iret.md R333). -/
def toV86SegmentTests (s : State) (sz : OpSize) : List Fault :=
  if stackTest s sz 3 6 .zero ≠ [] then stackTest s sz 3 6 .zero
  else if !withinCsLimit s.plat.v86SegLimit (frameIp s sz &&& 0xFFFF) then [.gp .zero]
  else []

/-- A data or stack segment register loaded from item `k` on a return to virtual-8086 mode. -/
def v86DataSeg (s : State) (sz : OpSize) (k : Nat) : SegReg :=
  { sel := frameSel s sz k, hidden := v86Hidden s (.data true) (frameSel s sz k) }

/-- The state a return to virtual-8086 mode leaves: every named flag of the image, the stack pointer and SS, then ES,
DS, FS, GS in that order, CPL 3 (45_iret.md R333, R334, R341). -/
def toV86Next (s : State) (sz : OpSize) : State :=
  let s := ((((((((((s.setRip (frameIp s sz &&& 0xFFFF)).setCs
    { sel := frameCs s sz, hidden := v86Hidden s (.code false) (frameCs s sz) }).setEflags
    (flagsLoaded s maskNamed (frameFlags s sz))).setRsp (loadedRsp s sz (frameSp s sz))).setSs
    (v86DataSeg s sz 4)).setEs (v86DataSeg s sz 5)).setDs (v86DataSeg s sz 6)).setFs
    (v86DataSeg s sz 7)).setGs (v86DataSeg s sz 8)).setCpl 3)
  s.nextFree

/-- RETURN-TO-VIRTUAL-8086-MODE (45_iret.md R333).  No descriptor is fetched and no selector is checked. -/
def toVirtual8086Return (s : State) (sz : OpSize) : Result State := do
  popGroup s sz 3 6 (toV86SegmentTests s sz)
  return toV86Next s sz

/-! ### The checks on the code segment (45_iret.md R321 to R330, R358) -/

/-- The first failing check on the return code segment `d` that `sel` names, as the list of exceptions that may be
raised: not a code segment, D-bit and L-bit both set in IA-32e mode, RPL below CPL, DPL against RPL, not present.
R327 and R328 have no order between them (60_exceptions.md R386). -/
def codeSegmentFaults (s : State) (sel : Word) (d : Descriptor) : List Fault :=
  if !isCode d then [.gp (.selector sel)]
  else if s.msr.lma && d.db && d.long then [.gp (.selector sel)]
  else if rplOf sel < s.cpl then [.gp (.selector sel)]
  else if d.kind = .code true then
    (if rplOf sel < d.dpl then [.gp (.selector sel)] else if !d.present then [.np sel] else [])
  else
    (if d.dpl != rplOf sel then [.gp (.selector sel)] else []) ++ (if !d.present then [.np sel] else [])

/-- The "new mode" is 64-bit mode: IA-32e mode and the L-bit of the return code segment (45_iret.md R306). -/
def newModeIs64 (s : State) (d : Descriptor) : Bool := s.msr.lma && d.long

/-- The return instruction pointer is bad: non-canonical for a return to 64-bit mode, else outside the limit of the
return code segment (45_iret.md R336, log 38). -/
def badReturnIp (s : State) (d : Descriptor) (ip : Qword) : Bool :=
  if newModeIs64 s d then !isCanonical s.cfg ip else !withinCsLimit d.limit ip

/-- The #GP(0) that the instruction-pointer test raises. -/
def returnIpFaults (s : State) (d : Descriptor) (ip : Qword) : List Fault :=
  if badReturnIp s d ip then [.gp .zero] else []

/-! ### The checks on the stack segment (45_iret.md R346 to R349, R357) -/

/-- A NULL SS is legal in one case: a return to 64-bit mode at a CPL below 3 that its RPL equals (45_iret.md R357
causes 3 to 5). -/
def nullSsLegal (s : State) (d : Descriptor) (csSel ssSel : Word) : Bool :=
  newModeIs64 s d && rplOf csSel != 3 && rplOf ssSel == rplOf csSel

/-- The first test of R348, which needs no descriptor: the RPL of the SS selector is not that of the return code
segment selector. -/
def stackRplFaults (csSel ssSel : Word) : List Fault :=
  if rplOf ssSel != rplOf csSel then [.gp (.selector ssSel)] else []

/-- The tests of R348 and R349 on the descriptor that the SS selector names. -/
def stackDescriptorFaults (e : Descriptor) (csSel ssSel : Word) : List Fault :=
  if !isWritableData e || e.dpl != rplOf csSel then [.gp (.selector ssSel)]
  else if !e.present then [.ss (.selector ssSel)]
  else []

/-- The first failing check on the return stack segment, `d` being the return code segment (45_iret.md R346 to
R349; R357 in place of R346 in IA-32e mode).  A fault of reading the descriptor and the RPL test have no order between
them (R362, log 23).  A descriptor in the APIC window is not read, so only the RPL test is made (log 21). -/
def stackSegmentFaults (s : State) (d : Descriptor) (csSel ssSel : Word) : List Fault :=
  if isNull ssSel then (if nullSsLegal s d csSel ssSel then [] else [.gp .zero])
  else if (tableEntry s ssSel).isNone then [.gp (.selector ssSel)]
  else if fetchFaults s ssSel ≠ [] then fetchFaults s ssSel ++ stackRplFaults csSel ssSel
  else if stackRplFaults csSel ssSel ≠ [] then stackRplFaults csSel ssSel
  else if fetchTouchesApic s ssSel then []
  else stackDescriptorFaults (descriptorOf s ssSel) csSel ssSel

/-- Reading the stack segment's descriptor reaches the APIC window. -/
def stackSegmentTouchesApic (s : State) (ssSel : Word) : Bool := !isNull ssSel && fetchTouchesApic s ssSel

/-- SS as loaded: the selector and the descriptor checked, or any hidden part under a NULL selector (45_iret.md R352,
log 26). -/
def loadedSs (s : State) (ssSel : Word) : SegReg :=
  { sel := ssSel, hidden := if isNull ssSel then Config.freeHidden s.freeCount 0 else descriptorOf s ssSel }

/-! ### Return to the same privilege level -/

/-- What every return that keeps the mode family loads: the instruction pointer and CS with its descriptor
(45_iret.md R336, R337). -/
def loadCsIp (s : State) (sz : OpSize) (d : Descriptor) : State :=
  (s.setRip (frameIp s sz)).setCs { sel := frameCs s sz, hidden := d }

/-- The state a same-level return of operand size 16 or 32 leaves: three items popped, SS unchanged (45_iret.md R340,
R343). -/
def sameLevelNext (s : State) (sz : OpSize) (d : Descriptor) : State :=
  ((loadCsIp s sz d).setEflags
    (flagsLoaded s (sameLevelMask sz s.cpl (ioplOf s.eflags)) (frameFlags s sz))).setRsp
    (rspAfterPop s (3 * sz.bytes))

/-- The state a same-level IRETQ leaves: SS:RSP are loaded from the frame (45_iret.md R343, decision D10). -/
def sameLevelNext64 (s : State) (d : Descriptor) : State :=
  (((((loadCsIp s .w64 d).setEflags
    (flagsLoaded s (sameLevelMask .w64 s.cpl (ioplOf s.eflags)) (frameFlags s .w64))).setRsp
    (loadedRsp s .w64 (frameSp s .w64))).setSs (loadedSs s (frameSs s .w64))).nextFree)

/-- RETURN-TO-SAME-PRIVILEGE-LEVEL (45_iret.md R336 to R343).  Operand size 16 or 32 executed in 64-bit mode is
refused (decision D10).  IRETQ's SS passes the checks of R357 and, where it is not NULL, of R347 to R349 (log 28). -/
def sameLevelReturn (s : State) (sz : OpSize) (d : Descriptor) : Result State :=
  match sz with
  | .w64 => do
    raiseOneOf s (stackSegmentFaults s d (frameCs s .w64) (frameSs s .w64) ++ returnIpFaults s d (frameIp s .w64))
    refuseIf (stackSegmentTouchesApic s (frameSs s .w64)) .apicWindow
    return sameLevelNext64 s d
  | .w16 => do
    refuseIf (inBits64 s) .sameLevelIn64Bit
    raiseOneOf s (returnIpFaults s d (frameIp s .w16))
    return sameLevelNext s .w16 d
  | .w32 => do
    refuseIf (inBits64 s) .sameLevelIn64Bit
    raiseOneOf s (returnIpFaults s d (frameIp s .w32))
    return sameLevelNext s .w32 d

/-! ### Return to an outer privilege level -/

/-- The state an outer-level return leaves (45_iret.md R350 to R354): CPL is the RPL of the return code segment
selector, SS and the stack pointer come from the frame, and ES, FS, GS, DS are invalidated. -/
def outerLevelNext (s : State) (sz : OpSize) (d : Descriptor) : State :=
  let newCpl := rplOf (frameCs s sz)
  let t := ((((loadCsIp s sz d).setEflags
    (flagsLoaded s (outerLevelMask sz s.cpl (ioplOf s.eflags)) (frameFlags s sz))).setRsp
    (loadedRsp s sz (frameSp s sz))).setSs (loadedSs s (frameSs s sz))).setCpl newCpl
  ((((t.setEs (invalidated s.freeCount 1 newCpl s.es)).setFs (invalidated s.freeCount 2 newCpl s.fs)).setGs
    (invalidated s.freeCount 3 newCpl s.gs)).setDs (invalidated s.freeCount 4 newCpl s.ds)).nextFree

/-- An outer-level return would load VM = 1 in IA-32e mode (45_iret.md R351, decision D25). -/
def loadsVmInIa32e (s : State) (sz : OpSize) : Bool :=
  s.msr.lma && sz == .w32 && s.cpl == 0 && flagOf (frameFlags s sz) .vm

/-- The test on the two further items of an outer-level frame; with operand size 64 they were popped with the rest
(45_iret.md R345). -/
def popOuterItems (s : State) (sz : OpSize) : Result Unit :=
  match sz with
  | .w64 => .ok ()
  | .w16 => popGroup s .w16 3 2 (stackTest s .w16 3 2 .zero)
  | .w32 => popGroup s .w32 3 2 (stackTest s .w32 3 2 .zero)

/-- RETURN-TO-OUTER-PRIVILEGE-LEVEL (45_iret.md R345 to R354).  A fault of reading the descriptor of CS comes before the
limit test of R345, and one of reading items 3 and 4 or the descriptor of SS before that of R350, because tests that need
the bytes read stand between (DESIGN CHOICE, log 23). -/
def outerLevelReturn (s : State) (sz : OpSize) (d : Descriptor) : Result State := do
  popOuterItems s sz
  raiseOneOf s (stackSegmentFaults s d (frameCs s sz) (frameSs s sz))
  refuseIf (stackSegmentTouchesApic s (frameSs s sz)) .apicWindow
  raiseOneOf s (returnIpFaults s d (frameIp s sz))
  refuseIf (loadsVmInIa32e s sz) .vmInIa32e
  return outerLevelNext s sz d

/-- The branch on the privilege level returned to (45_iret.md R329). -/
def privilegeReturn (s : State) (sz : OpSize) (d : Descriptor) : Result State :=
  if s.cpl < rplOf (frameCs s sz) then outerLevelReturn s sz d else sameLevelReturn s sz d

/-! ### Protected mode and IA-32e mode -/

/-- PROTECTED-MODE-RETURN (45_iret.md R321 to R329). -/
def protectedModeCheckedReturn (s : State) (sz : OpSize) : Result State := do
  raiseIf (isNull (frameCs s sz)) (.gp .zero)
  let d ← fetchDescriptor s (frameCs s sz)
  raiseOneOf s (codeSegmentFaults s (frameCs s sz) d)
  privilegeReturn s sz d

/-- PROTECTED-MODE (45_iret.md R315), after the dispatch to virtual-8086 mode. -/
def protectedModeReturn (s : State) (sz : OpSize) : Result State :=
  if flagOf s.eflags .nt then taskReturn s
  else do
    popGroup s sz 0 3 (stackTest s sz 0 3 .zero)
    if flagOf (frameFlags s sz) .vm && s.cpl == 0 then toVirtual8086Return s sz
    else protectedModeCheckedReturn s sz

/-- Causes 2 to 5 of the first #GP(0) of IA-32e-MODE-RETURN, once the code segment is known; causes 3 to 5 with
operand size 64 only (45_iret.md R357). -/
def ia32eFirstFaults (s : State) (sz : OpSize) (d : Descriptor) : List Fault :=
  if (newModeIs64 s d && !isCanonical s.cfg (frameIp s sz))
      || (sz == .w64 && isNull (frameSs s sz) && !nullSsLegal s d (frameCs s sz) (frameSs s sz)) then [.gp .zero]
  else []

/-- Operand size 64 and a NULL SS that no code segment makes legal: returning to CPL 3, or with another RPL than the
return code segment selector's (45_iret.md R357 causes 3 to 5). -/
def nullSsNeverLegal (s : State) (sz : OpSize) : Bool :=
  sz == .w64 && isNull (frameSs s sz) &&
    (rplOf (frameCs s sz) == 3 || rplOf (frameSs s sz) != rplOf (frameCs s sz))

/-- The exceptions that apply where the code segment's descriptor cannot be had: why it cannot be fetched, and the #GP(0)
of a NULL SS that is illegal whatever it says, in no order (45_iret.md R357, R362, U12, log 23). -/
def ia32eUnfetchedFaults (s : State) (sz : OpSize) : List Fault :=
  if fetchFaults s (frameCs s sz) ≠ [] ∨ fetchTouchesApic s (frameCs s sz) = true then
    fetchFaults s (frameCs s sz) ++ (if nullSsNeverLegal s sz then [.gp .zero] else [])
  else []

/-- IA-32e-MODE-RETURN (45_iret.md R357, R358).  The page does not rank the first test's causes 2 to 5 against the
checks on the code segment or the fetch of its descriptor (U12). -/
def ia32eCheckedReturn (s : State) (sz : OpSize) : Result State := do
  raiseIf (isNull (frameCs s sz)) (.gp .zero)
  raiseOneOf s (ia32eUnfetchedFaults s sz)
  let d ← fetchDescriptor s (frameCs s sz)
  raiseOneOf s (ia32eFirstFaults s sz d ++ codeSegmentFaults s (frameCs s sz) d)
  privilegeReturn s sz d

/-- Items of the frame that IA-32e-MODE pops before its checks (45_iret.md R356). -/
def ia32eItems : OpSize → Nat
  | .w16 => 3
  | .w32 => 3
  | .w64 => 5

/-- IA-32e-MODE (45_iret.md R356): NT = 1 faults first. -/
def ia32eReturn (s : State) (sz : OpSize) : Result State := do
  raiseIf (flagOf s.eflags .nt) (.gp .zero)
  popGroup s sz 0 (ia32eItems sz) (stackTest s sz 0 (ia32eItems sz) .zero)
  ia32eCheckedReturn s sz

/-! ### The instructions -/

/-- The dispatch of an interrupt return on the operating mode (45_iret.md R300, R305). -/
def interruptReturn (s : State) (sz : OpSize) : Result State := do
  refuseIf s.plat.vmxNonRoot .vmxNonRoot
  match modeOf s with
  | .realAddress => realAddressReturn s sz
  | .virtual8086 => virtual8086Return s sz
  | .protectedMode => protectedModeReturn s sz
  | .compatibility => ia32eReturn s sz
  | .bits64 => ia32eReturn s sz

/-- IRET: interrupt return with operand size 16 (45_iret.md R300). -/
def execIret (s : State) : Host.Outcome State Fault Refusal := finish (interruptReturn s .w16)

/-- IRETD: interrupt return with operand size 32 (45_iret.md R300). -/
def execIretd (s : State) : Host.Outcome State Fault Refusal := finish (interruptReturn s .w32)

/-- IRETQ: interrupt return with operand size 64, in 64-bit mode only; the REX bits R, X, B are ignored (45_iret.md
R300, 30_encoding.md R93). -/
def execIretq (_ : BitVec 3) (s : State) : Host.Outcome State Fault Refusal :=
  finish do
    refuseIf (!inBits64 s) .notEncodable
    interruptReturn s .w64

end Sys2Proof.Machine
end

