-- ==== Sys2Proof/Machine/Locked.lean ====
section
/-! DEFINITION. The forms with a LOCK prefix: #UD in every operating mode, decided before anything else
(30_encoding.md R95, 60_exceptions.md R386). -/

namespace Sys2Proof.Machine

/-- LOCK CPUID: #UD; no register, flag or MSR is written (40_cpuid.md R121). -/
def execLockCpuid (_ : State) : Host.Outcome State Fault Refusal := raise .ud

/-- LOCK IRET, LOCK IRETD: #UD; no stack byte is read (45_iret.md R301). -/
def execLockIretIretd (_ : State) : Host.Outcome State Fault Refusal := raise .ud

/-- LOCK IRETQ: #UD; no stack byte is read (45_iret.md R301).  The REX bits are ignored (30_encoding.md R93). -/
def execLockIretq (_ : BitVec 3) (_ : State) : Host.Outcome State Fault Refusal := raise .ud

end Sys2Proof.Machine
end

