-- ==== Sys2Proof/Machine/Dispatch.lean ====
section
/-! DEFINITION. The meaning of every instruction, one arm per constructor. -/

namespace Sys2Proof.Machine

def exec (i : Instr) (s : State) : Host.Outcome State Fault Refusal :=
  match i with
  | .cpuid => Sys2Proof.Machine.execCpuid s
  | .iret => Sys2Proof.Machine.execIret s
  | .iretd => Sys2Proof.Machine.execIretd s
  | .iretq rxb => Sys2Proof.Machine.execIretq rxb s
  | .lockCpuid => Sys2Proof.Machine.execLockCpuid s
  | .lockIretIretd => Sys2Proof.Machine.execLockIretIretd s
  | .lockIretq rxb => Sys2Proof.Machine.execLockIretq rxb s

end Sys2Proof.Machine
end

