-- ==== Sys2Proof/WellFormed.lean ====
section
/-! DEFINITION. Which instructions exist under which code size. -/

namespace Sys2Proof

/-- An instruction is well formed under code size `c` when the opcode table has an encoding of it there: IRETQ is
"N.E." outside 64-bit mode (30_encoding.md R93); every other row exists in every mode (R91, R92, R95). -/
def Instr.wellFormed (c : CodeSize) : Instr → Bool
  | .cpuid => true
  | .iret => true
  | .iretd => true
  | .iretq _ => c == .mode64
  | .lockCpuid => true
  | .lockIretIretd => true
  | .lockIretq _ => true

end Sys2Proof
end

