-- ==== Sys2Proof/Decode.lean ====
section
/-! DEFINITION. The decoder, total on every list of bytes, and after it the encoder, both from 30_encoding.md
R91 to R104.  Byte values of the prefixes are the spec's general-knowledge passages G11 (log 33). -/

namespace Sys2Proof

/-- Why a list of bytes is no instruction. -/
inductive DecodeError where
  /-- no byte to decode -/
  | empty
  /-- the bytes match no row of the opcode table (30_encoding.md R104) -/
  | notDescribed
  /-- a REX.W form outside 64-bit mode, "N.E." (30_encoding.md R93) -/
  | notEncodable
  deriving DecidableEq, Repr

/-- A REX prefix with W = 1: high nibble 0100B, then W, R, X, B (30_encoding.md R93). -/
def isRexW (b : Byte) : Bool := (b >>> 3) == 0x09

/-- The ignored bits R, X, B of a REX prefix. -/
def rexBits (b : Byte) : BitVec 3 := b.setWidth 3

/-- The interrupt return that `CF` is: the operand size is the default of the code size, or the other size under
the prefix 66H (30_encoding.md R96, R105). -/
def decodeInterruptReturn (c : CodeSize) (prefix66 : Bool) : Instr :=
  match c, prefix66 with
  | .bits16, false => .iret
  | .bits16, true => .iretd
  | .bits32, false => .iretd
  | .bits32, true => .iret
  | .mode64, false => .iretd
  | .mode64, true => .iret

/-- The forms with the LOCK prefix F0H: `0F A2`, `CF`, `REX.W CF` (30_encoding.md R95, R99), the last two also
with the prefix 66H, since R95 has LOCK IRET "in each operand size" (log 33). -/
def decodeLocked (with66 : Bool) : List Byte → Except DecodeError (Instr × List Byte)
  | [] => .error .notDescribed
  | b :: rest =>
    if b = 0xCF then .ok (.lockIretIretd, rest)
    else if isRexW b then
      match rest with
      | b' :: rest' => if b' = 0xCF then .ok (.lockIretq (rexBits b), rest') else .error .notDescribed
      | [] => .error .notDescribed
    else if b = 0x0F ∧ with66 = false then
      match rest with
      | b' :: rest' => if b' = 0xA2 then .ok (.lockCpuid, rest') else .error .notDescribed
      | [] => .error .notDescribed
    else .error .notDescribed

/-- A `REX.W` prefix and what follows it: IRETQ in 64-bit mode only (30_encoding.md R93, R96). -/
def decodeRexW (c : CodeSize) (b : Byte) : List Byte → Except DecodeError (Instr × List Byte)
  | [] => .error .notDescribed
  | b' :: rest =>
    if b' = 0xCF then
      match c with
      | .mode64 => .ok (.iretq (rexBits b), rest)
      | .bits16 => .error .notEncodable
      | .bits32 => .error .notEncodable
    else .error .notDescribed

/-- What may follow the operand-size prefix 66H: an interrupt return of the other operand size, IRETQ (REX.W wins
over 66H, 30_encoding.md R96), or a locked interrupt return. -/
def decodePrefixed66 (c : CodeSize) : List Byte → Except DecodeError (Instr × List Byte)
  | [] => .error .notDescribed
  | b :: rest =>
    if b = 0xCF then .ok (decodeInterruptReturn c true, rest)
    else if isRexW b then decodeRexW c b rest
    else if b = 0xF0 then decodeLocked true rest
    else .error .notDescribed

/-- What may follow the LOCK prefix: 66H once before an interrupt return, or a locked form. -/
def decodeAfterLock : List Byte → Except DecodeError (Instr × List Byte)
  | [] => .error .notDescribed
  | b :: rest => if b = 0x66 then decodeLocked true rest else decodeLocked false (b :: rest)

/-- The decoder: the instruction at the front of the bytes and the bytes that follow it.  Total: every other byte
sequence is refused by name (30_encoding.md R104; R97 for a prefixed CPUID). -/
def decode (c : CodeSize) : List Byte → Except DecodeError (Instr × List Byte)
  | [] => .error .empty
  | b :: rest =>
    if b = 0x0F then
      match rest with
      | b' :: rest' => if b' = 0xA2 then .ok (.cpuid, rest') else .error .notDescribed
      | [] => .error .notDescribed
    else if b = 0xCF then .ok (decodeInterruptReturn c false, rest)
    else if b = 0xF0 then decodeAfterLock rest
    else if b = 0x66 then decodePrefixed66 c rest
    else if isRexW b then decodeRexW c b rest
    else .error .notDescribed

/-- The bytes of `REX.W` with the ignored bits `rxb` (30_encoding.md R93). -/
def rexW (rxb : BitVec 3) : Byte := 0x48 ||| rxb.setWidth 8

/-- The encoder: the bytes of a well-formed instruction under code size `c`, lowest address first
(30_encoding.md R91 to R96, R99).  The prefix 66H stands only where the default size is the other one. -/
def encode (c : CodeSize) : Instr → List Byte
  | .cpuid => [0x0F, 0xA2]
  | .iret =>
    match c with
    | .bits16 => [0xCF]
    | .bits32 => [0x66, 0xCF]
    | .mode64 => [0x66, 0xCF]
  | .iretd =>
    match c with
    | .bits16 => [0x66, 0xCF]
    | .bits32 => [0xCF]
    | .mode64 => [0xCF]
  | .iretq rxb => [rexW rxb, 0xCF]
  | .lockCpuid => [0xF0, 0x0F, 0xA2]
  | .lockIretIretd => [0xF0, 0xCF]
  | .lockIretq rxb => [0xF0, rexW rxb, 0xCF]

/-- Length in bytes of the longest encoding the decoder accepts: two prefixes, REX.W and the opcode. -/
def maxInstrBytes : Nat := 4

/-- The bytes of a number, its least significant byte last. -/
def bytesOfWord (nbits w : Nat) : List Byte :=
  (List.range (nbits / 8)).reverse.map fun k => BitVec.ofNat 8 (w >>> (8 * k))

/-- Decoding that accepts only an instruction that fills the bytes. -/
def decodeExact (c : CodeSize) (bytes : List Byte) : Option Instr :=
  match decode c bytes with
  | .ok (i, []) => some i
  | .ok (_, _ :: _) => none
  | .error _ => none

/-- The bytes are one instruction under some code size of this interface. -/
def isTableForm (bytes : List Byte) : Bool :=
  (decodeExact .bits16 bytes).isSome || (decodeExact .mode64 bytes).isSome

/-- The bytes of a table word: the byte at the lowest address is the most significant (30_encoding.md R99, and the
`fixed` fields of spec/opcode_table.json, whose bits 7:0 are the last byte).  A word that is no instruction so
numbered, and is one with its first byte in bits 7:0, is numbered that way.  Log 34. -/
def tableBytes (nbits w : Nat) : List Byte :=
  let bytes := bytesOfWord nbits w
  if isTableForm bytes then bytes else if isTableForm bytes.reverse then bytes.reverse else bytes

/-- The instruction the decoder reads from a word of spec/opcode_table.json.  The row `CF` is IRET or IRETD by the
code size; a table word carries none, so it is read under the code size of reset (16-bit) first, and in 64-bit
mode where that refuses it.  Log 34. -/
def decodeTableWord (nbits w : Nat) : Option Instr :=
  match decodeExact .bits16 (tableBytes nbits w) with
  | some i => some i
  | none => decodeExact .mode64 (tableBytes nbits w)

end Sys2Proof
end

