-- ==== Sys2Proof/Machine/Fetch.lean ====
section
/-! DEFINITION. Fetching an instruction's bytes through CS (20_memory.md R61, R79) and decoding them, and placing an
instruction where the next fetch reads it. -/

namespace Sys2Proof.Machine

/-- The linear address of the byte `k` after the instruction pointer: CS.base plus EIP, or RIP in 64-bit mode
(20_memory.md R61).  DESIGN CHOICE (log 35): the sum wraps, so the byte after the top of the address space is byte 0. -/
def codeLinear (s : State) (k : Nat) : Qword :=
  if inBits64 s then s.rip + BitVec.ofNat 64 k
  else wrapLinear s (s.cs.hidden.base.setWidth 64 + (s.rip + BitVec.ofNat 64 k))

/-- The byte may be fetched at all: inside the code segment's limit, or canonical in 64-bit mode (log 35). -/
def fetchable (s : State) (k : Nat) : Bool :=
  if inBits64 s then isCanonical s.cfg (codeLinear s k) else s.rip.toNat + k ≤ s.cs.hidden.limit.toNat

/-- The byte `k` after the instruction pointer, `none` where the sources do not say what a fetch does: outside the
limit, not translated, in the APIC window (log 35). -/
def fetchByte (s : State) (k : Nat) : Option Byte :=
  if fetchable s k then
    match translate s (codeLinear s k) with
    | none => none
    | some p => if inApicWindow s p then none else some (s.mem.read p)
  else none

/-- The bytes from offset `k` on that can be fetched, at most `fuel`; every fetch sees every earlier store
(20_memory.md R79, decision D3). -/
def fetchBytes (s : State) : (fuel k : Nat) → List Byte
  | 0, _ => []
  | fuel + 1, k =>
    match fetchByte s k with
    | none => []
    | some b => b :: fetchBytes s fuel (k + 1)

/-- The instruction at the instruction pointer. -/
def fetchInstr (s : State) : Except Refusal Instr :=
  match decode (codeSizeOf s) (fetchBytes s maxInstrBytes 0) with
  | .ok (i, _) => .ok i
  | .error .empty => .error .unfetchable
  | .error .notDescribed => .error .notDescribed
  | .error .notEncodable => .error .notEncodable

/-- Bytes stored where the fetch from offset `k` on reads them. -/
def placeBytes (s : State) : List Byte → (k : Nat) → State
  | [], _ => s
  | b :: rest, k =>
    match translate s (codeLinear s k) with
    | none => placeBytes s rest (k + 1)
    | some p => placeBytes (s.setMem (s.mem.write p b)) rest (k + 1)

/-- The state put into 64-bit mode: what an instruction that exists only there needs before it can be fetched
(30_encoding.md R93, 45_iret.md R305, R306; log 34). -/
def intoBits64 (s : State) : State :=
  { s with
    cr := { s.cr with pe := true }
    msr := { s.msr with lma := true }
    eflags := s.eflags &&& ~~~maskM
    cs := { s.cs with hidden := { s.cs.hidden with long := true, db := false } } }

/-- The word decodes only in 64-bit mode. -/
def needsBits64 (s : State) (bytes : List Byte) : Bool :=
  (decodeExact (codeSizeOf s) bytes).isNone && (decodeExact .mode64 bytes).isSome

/-- The instruction of a table word, followed by zero bytes up to the longest encoding, where the next step fetches
it; the state is put into 64-bit mode first where the form exists only there (log 34). -/
def placeFetchWord (s : State) (nbits w : Nat) : State :=
  let bytes := tableBytes nbits w
  let t := if needsBits64 s bytes then intoBits64 s else s
  placeBytes t (bytes ++ List.replicate (maxInstrBytes - bytes.length) 0) 0

end Sys2Proof.Machine
end

