-- ==== Sys2Proof/Machine/Step.lean ====
section
/-! DEFINITION. One step: the instruction at the instruction pointer is fetched, decoded and executed; bytes that
are no instruction of the table are refused (30_encoding.md R104).  There is no interrupt between two steps
(60_exceptions.md R388). -/

namespace Sys2Proof.Machine

/-- One step of the machine. -/
def step (s : State) : Host.Outcome State Fault Refusal :=
  match fetchInstr s with
  | .ok i => exec i s
  | .error r => .refused r

/-- The state with the instruction of a table word stored where `step` fetches its next instruction (log 34). -/
def State.withFetchWord (s : State) (nbits w : Nat) : State := placeFetchWord s nbits w

end Sys2Proof.Machine
end

