-- ==== Sys2Proof/Machine/DescriptorBytes.lean ====
section
/-! DEFINITION. The descriptor bytes of CPUID leaf 02H: how software decodes an answer (41_cpuid_basic_leaves.md R172)
and what each byte means, Table 3-22 (42_cpuid_leaf2_descriptors.md). -/

namespace Sys2Proof.Machine

/-! ### Decoding an answer -/

/-- Byte `k` of a register. -/
def regByte (x : Dword) (k : Nat) : Byte := x.extractLsb' (8 * k) 8

/-- The non-null descriptor bytes of one register from byte `first` on, none where bit 31 marks the register reserved
(41_cpuid_basic_leaves.md R171 items 2 and 3, R172). -/
def regDescriptors (x : Dword) (first : Nat) : List Byte :=
  if bit x 31 then [] else (([0, 1, 2, 3].drop first).map (regByte x)).filter fun d => d != 0

/-- The descriptor bytes of an answer; their order carries no meaning (41_cpuid_basic_leaves.md R172).  Byte 0 of EAX
is the count of executions, no descriptor. -/
def leaf02Descriptors (q : Quad) : List Byte :=
  regDescriptors q.eax 1 ++ regDescriptors q.ebx 0 ++ regDescriptors q.ecx 0 ++ regDescriptors q.edx 0

/-! ### Table 3-22 -/

/-- The structure a TLB descriptor speaks of. -/
inductive TlbUnit where
  | instruction | data | data0 | data1 | shared
  deriving DecidableEq, Repr

/-- Associativity as a description gives it; seven descriptors give none (42_cpuid_leaf2_descriptors.md R236 e). -/
inductive Associativity where
  | ways (n : Nat)
  | full
  | unstated
  deriving DecidableEq, Repr

/-- An array of TLB entries: page sizes in KBytes, associativity, entries.  Sizes that a description joins by "and"
are elements of `pageKBytes`, sizes it joins by "or" or by a slash stand in one element, so `[[4], [2048, 4096]]` is
"4 KByte and 2-MByte or 4-MByte pages".  DESIGN CHOICE (log 46): a slash is read as "or", and what "or" means, one size
at a time or one size of the part, is left as the description has it. -/
structure TlbArray where
  pageKBytes : List (List Nat)
  assoc : Associativity
  entries : Nat
  deriving DecidableEq, Repr

/-- The level and kind of a cache. -/
inductive CacheLevel where
  | firstInstruction | firstData | second | third
  deriving DecidableEq, Repr

/-- A cache: size in KBytes, ways, line size in bytes, and "2 lines per sector". -/
structure CacheArray where
  level : CacheLevel
  kBytes : Nat
  ways : Nat
  lineBytes : Nat
  sectored : Bool
  deriving DecidableEq, Repr

/-- What a descriptor byte means (42_cpuid_leaf2_descriptors.md R231 to R233, R236). -/
inductive DescriptorMeaning where
  /-- 00H: this byte contains no information -/
  | null
  /-- 40H: no 2nd-level cache, or no 3rd-level cache beside a valid 2nd-level cache -/
  | noFurtherCache
  /-- 40H once the other descriptors are known: there is no cache of this level (R236 b) -/
  | absent (level : CacheLevel)
  /-- FFH: use CPUID leaf 4 -/
  | useLeaf04
  | tlb (unit : TlbUnit) (array : TlbArray)
  /-- B1H: a TLB of one array "or" of the other (log 46) -/
  | tlbEither (unit : TlbUnit) (one other : TlbArray)
  | cache (c : CacheArray)
  /-- a trace cache: its size in K-uops and its ways -/
  | traceCache (kUops ways : Nat)
  | prefetch (bytes : Nat)
  /-- 49H: one meaning on the Intel Xeon processor MP, Family 0FH, Model 06H, another elsewhere -/
  | bySignature (onXeonMp elsewhere : CacheArray)
  deriving DecidableEq, Repr

/-- Table 3-22, first part (42_cpuid_leaf2_descriptors.md R231). -/
def descriptorTable1 : List (Byte × DescriptorMeaning) :=
  [ (0x00, .null),
    (0x01, .tlb .instruction ⟨[[4]], .ways 4, 32⟩),
    (0x02, .tlb .instruction ⟨[[4096]], .full, 2⟩),
    (0x03, .tlb .data ⟨[[4]], .ways 4, 64⟩),
    (0x04, .tlb .data ⟨[[4096]], .ways 4, 8⟩),
    (0x05, .tlb .data1 ⟨[[4096]], .ways 4, 32⟩),
    (0x06, .cache ⟨.firstInstruction, 8, 4, 32, false⟩),
    (0x08, .cache ⟨.firstInstruction, 16, 4, 32, false⟩),
    (0x09, .cache ⟨.firstInstruction, 32, 4, 64, false⟩),
    (0x0A, .cache ⟨.firstData, 8, 2, 32, false⟩),
    (0x0B, .tlb .instruction ⟨[[4096]], .ways 4, 4⟩),
    (0x0C, .cache ⟨.firstData, 16, 4, 32, false⟩),
    (0x0D, .cache ⟨.firstData, 16, 4, 64, false⟩),
    (0x0E, .cache ⟨.firstData, 24, 6, 64, false⟩),
    (0x1D, .cache ⟨.second, 128, 2, 64, false⟩),
    (0x21, .cache ⟨.second, 256, 8, 64, false⟩),
    (0x22, .cache ⟨.third, 512, 4, 64, true⟩),
    (0x23, .cache ⟨.third, 1024, 8, 64, true⟩),
    (0x24, .cache ⟨.second, 1024, 16, 64, false⟩),
    (0x25, .cache ⟨.third, 2048, 8, 64, true⟩),
    (0x29, .cache ⟨.third, 4096, 8, 64, true⟩),
    (0x2C, .cache ⟨.firstData, 32, 8, 64, false⟩),
    (0x30, .cache ⟨.firstInstruction, 32, 8, 64, false⟩),
    (0x40, .noFurtherCache),
    (0x41, .cache ⟨.second, 128, 4, 32, false⟩),
    (0x42, .cache ⟨.second, 256, 4, 32, false⟩),
    (0x43, .cache ⟨.second, 512, 4, 32, false⟩),
    (0x44, .cache ⟨.second, 1024, 4, 32, false⟩),
    (0x45, .cache ⟨.second, 2048, 4, 32, false⟩),
    (0x46, .cache ⟨.third, 4096, 4, 64, false⟩),
    (0x47, .cache ⟨.third, 8192, 8, 64, false⟩),
    (0x48, .cache ⟨.second, 3072, 12, 64, false⟩),
    (0x49, .bySignature ⟨.third, 4096, 16, 64, false⟩ ⟨.second, 4096, 16, 64, false⟩),
    (0x4A, .cache ⟨.third, 6144, 12, 64, false⟩),
    (0x4B, .cache ⟨.third, 8192, 16, 64, false⟩),
    (0x4C, .cache ⟨.third, 12288, 12, 64, false⟩),
    (0x4D, .cache ⟨.third, 16384, 16, 64, false⟩),
    (0x4E, .cache ⟨.second, 6144, 24, 64, false⟩),
    (0x4F, .tlb .instruction ⟨[[4]], .unstated, 32⟩) ]

/-- Table 3-22, second part (42_cpuid_leaf2_descriptors.md R232). -/
def descriptorTable2 : List (Byte × DescriptorMeaning) :=
  [ (0x50, .tlb .instruction ⟨[[4], [2048, 4096]], .unstated, 64⟩),
    (0x51, .tlb .instruction ⟨[[4], [2048, 4096]], .unstated, 128⟩),
    (0x52, .tlb .instruction ⟨[[4], [2048, 4096]], .unstated, 256⟩),
    (0x55, .tlb .instruction ⟨[[2048, 4096]], .full, 7⟩),
    (0x56, .tlb .data0 ⟨[[4096]], .ways 4, 16⟩),
    (0x57, .tlb .data0 ⟨[[4]], .ways 4, 16⟩),
    (0x59, .tlb .data0 ⟨[[4]], .full, 16⟩),
    (0x5A, .tlb .data0 ⟨[[2048, 4096]], .ways 4, 32⟩),
    (0x5B, .tlb .data ⟨[[4], [4096]], .unstated, 64⟩),
    (0x5C, .tlb .data ⟨[[4], [4096]], .unstated, 128⟩),
    (0x5D, .tlb .data ⟨[[4], [4096]], .unstated, 256⟩),
    (0x60, .cache ⟨.firstData, 16, 8, 64, false⟩),
    (0x61, .tlb .instruction ⟨[[4]], .full, 48⟩),
    (0x63, .tlb .data ⟨[[1048576]], .ways 4, 4⟩),
    (0x66, .cache ⟨.firstData, 8, 4, 64, false⟩),
    (0x67, .cache ⟨.firstData, 16, 4, 64, false⟩),
    (0x68, .cache ⟨.firstData, 32, 4, 64, false⟩),
    (0x70, .traceCache 12 8),
    (0x71, .traceCache 16 8),
    (0x72, .traceCache 32 8),
    (0x76, .tlb .instruction ⟨[[2048, 4096]], .full, 8⟩),
    (0x78, .cache ⟨.second, 1024, 4, 64, false⟩),
    (0x79, .cache ⟨.second, 128, 8, 64, true⟩),
    (0x7A, .cache ⟨.second, 256, 8, 64, true⟩),
    (0x7B, .cache ⟨.second, 512, 8, 64, true⟩),
    (0x7C, .cache ⟨.second, 1024, 8, 64, true⟩),
    (0x7D, .cache ⟨.second, 2048, 8, 64, false⟩),
    (0x7F, .cache ⟨.second, 512, 2, 64, false⟩),
    (0x80, .cache ⟨.second, 512, 8, 64, false⟩),
    (0x82, .cache ⟨.second, 256, 8, 32, false⟩),
    (0x83, .cache ⟨.second, 512, 8, 32, false⟩),
    (0x84, .cache ⟨.second, 1024, 8, 32, false⟩),
    (0x85, .cache ⟨.second, 2048, 8, 32, false⟩),
    (0x86, .cache ⟨.second, 512, 4, 64, false⟩),
    (0x87, .cache ⟨.second, 1024, 8, 64, false⟩),
    (0xA0, .tlb .data ⟨[[4]], .full, 32⟩),
    (0xB0, .tlb .instruction ⟨[[4]], .ways 4, 128⟩),
    (0xB1, .tlbEither .instruction ⟨[[2048]], .ways 4, 8⟩ ⟨[[4096]], .ways 4, 4⟩),
    (0xB2, .tlb .instruction ⟨[[4]], .ways 4, 64⟩),
    (0xB3, .tlb .data ⟨[[4]], .ways 4, 128⟩),
    (0xB4, .tlb .data1 ⟨[[4]], .ways 4, 256⟩) ]

/-- Table 3-22, third part (42_cpuid_leaf2_descriptors.md R233). -/
def descriptorTable3 : List (Byte × DescriptorMeaning) :=
  [ (0xB5, .tlb .instruction ⟨[[4]], .ways 8, 64⟩),
    (0xB6, .tlb .instruction ⟨[[4]], .ways 8, 128⟩),
    (0xBA, .tlb .data1 ⟨[[4]], .ways 4, 64⟩),
    (0xC0, .tlb .data ⟨[[4], [4096]], .ways 4, 8⟩),
    (0xC1, .tlb .shared ⟨[[4, 2048]], .ways 8, 1024⟩),
    (0xC2, .tlb .data ⟨[[4, 2048]], .ways 4, 16⟩),
    (0xCA, .tlb .shared ⟨[[4]], .ways 4, 512⟩),
    (0xD0, .cache ⟨.third, 512, 4, 64, false⟩),
    (0xD1, .cache ⟨.third, 1024, 4, 64, false⟩),
    (0xD2, .cache ⟨.third, 2048, 4, 64, false⟩),
    (0xD6, .cache ⟨.third, 1024, 8, 64, false⟩),
    (0xD7, .cache ⟨.third, 2048, 8, 64, false⟩),
    (0xD8, .cache ⟨.third, 4096, 8, 64, false⟩),
    (0xDC, .cache ⟨.third, 1536, 12, 64, false⟩),
    (0xDD, .cache ⟨.third, 3072, 12, 64, false⟩),
    (0xDE, .cache ⟨.third, 6144, 12, 64, false⟩),
    (0xE2, .cache ⟨.third, 2048, 16, 64, false⟩),
    (0xE3, .cache ⟨.third, 4096, 16, 64, false⟩),
    (0xE4, .cache ⟨.third, 8192, 16, 64, false⟩),
    (0xEA, .cache ⟨.third, 12288, 24, 64, false⟩),
    (0xEB, .cache ⟨.third, 18432, 24, 64, false⟩),
    (0xEC, .cache ⟨.third, 24576, 24, 64, false⟩),
    (0xF0, .prefetch 64),
    (0xF1, .prefetch 128),
    (0xFF, .useLeaf04) ]

/-- Table 3-22. -/
def descriptorTable : List (Byte × DescriptorMeaning) := descriptorTable1 ++ descriptorTable2 ++ descriptorTable3

/-- What a descriptor byte means, `none` "not described": the 151 values in no row (42_cpuid_leaf2_descriptors.md
R234, U3). -/
def descriptorMeaning (d : Byte) : Option DescriptorMeaning :=
  (descriptorTable.find? fun r => r.1 == d).map fun r => r.2

/-- The four types of encoding values (42_cpuid_leaf2_descriptors.md R235, PRESUMED as names, log 42). -/
inductive DescriptorType where
  | general | tlb | cache | prefetch
  deriving DecidableEq, Repr

/-- The type of a meaning (42_cpuid_leaf2_descriptors.md R235). -/
def DescriptorMeaning.type : DescriptorMeaning → DescriptorType
  | .null => .general
  | .noFurtherCache => .general
  | .absent _ => .general
  | .useLeaf04 => .general
  | .tlb _ _ => .tlb
  | .tlbEither _ _ _ => .tlb
  | .cache _ => .cache
  | .traceCache _ _ => .cache
  | .prefetch _ => .prefetch
  | .bySignature _ _ => .cache

/-- The signature of 49H's first meaning, "Family 0FH, Model 06H" (42_cpuid_leaf2_descriptors.md R236 c).  DESIGN
CHOICE (log 46): these are the 4-bit fields EAX[11:8] and EAX[7:4]; the extended fields are not examined. -/
def isXeonMp (signature : Dword) : Bool := field signature 11 8 == 0x0F && field signature 7 4 == 0x06

/-- A meaning is a valid 2nd-level cache on a processor of the signature. -/
def DescriptorMeaning.isSecondLevel (signature : Dword) : DescriptorMeaning → Bool
  | .cache c => c.level == .second
  | .bySignature onXeonMp elsewhere => (if isXeonMp signature then onXeonMp else elsewhere).level == .second
  | .null => false
  | .noFurtherCache => false
  | .absent _ => false
  | .useLeaf04 => false
  | .tlb _ _ => false
  | .tlbEither _ _ _ => false
  | .traceCache _ _ => false
  | .prefetch _ => false

/-- The meaning on a processor of a signature whose answer holds the meanings `present`: 49H is resolved by the
signature, 40H by whether a 2nd-level cache is present (42_cpuid_leaf2_descriptors.md R236 b, c).  DESIGN CHOICE (log
46): only a described 2nd-level cache counts as present, so 40H beside FFH or an undescribed byte alone is "no 2nd-level
cache". -/
def DescriptorMeaning.resolve (signature : Dword) (present : List DescriptorMeaning) :
    DescriptorMeaning → DescriptorMeaning
  | .bySignature onXeonMp elsewhere => .cache (if isXeonMp signature then onXeonMp else elsewhere)
  | .noFurtherCache => .absent (if present.any (·.isSecondLevel signature) then .third else .second)
  | .null => .null
  | .absent level => .absent level
  | .useLeaf04 => .useLeaf04
  | .tlb unit array => .tlb unit array
  | .tlbEither unit one other => .tlbEither unit one other
  | .cache c => .cache c
  | .traceCache kUops ways => .traceCache kUops ways
  | .prefetch bytes => .prefetch bytes

/-- What an answer of leaf 02H says of a processor of a signature: the resolved meanings of its descriptor bytes; a byte
that is not described has none (42_cpuid_leaf2_descriptors.md R234, R236). -/
def interpretLeaf02 (signature : Dword) (q : Quad) : List DescriptorMeaning :=
  let present := (leaf02Descriptors q).filterMap descriptorMeaning
  present.map (DescriptorMeaning.resolve signature present)

end Sys2Proof.Machine
end

