-- ==== Sys2Proof/Machine/LeafFields.lean ====
section
/-! DEFINITION. Every field of every CPUID leaf as a table, transcribed from 41_cpuid_basic_leaves.md and
43_cpuid_extended_leaves.md: leaf, sub-leaf, register, bits, kind and name.  A name that stands for a feature flag
is the mnemonic of the spec's table. -/

namespace Sys2Proof.Machine

/-- One of the four output registers. -/
inductive OutReg where
  | eax | ebx | ecx | edx
  deriving DecidableEq, Repr

/-- The value of an output register. -/
def outValue (q : Quad) : OutReg → Dword
  | .eax => q.eax
  | .ebx => q.ebx
  | .ecx => q.ecx
  | .edx => q.edx

/-- For which sub-leaves a field table applies. -/
inductive SubRule where
  /-- input ECX is ignored -/
  | any
  /-- this sub-leaf only -/
  | only (n : Nat)
  /-- the valid sub-leaves of leaf 04H (R186) -/
  | cacheIndex
  /-- the valid levels of leaf 0BH (R203) -/
  | level
  /-- the valid sub-leaves of leaf 0DH above 1 (R215) -/
  | xsaveComponent
  deriving DecidableEq, Repr

/-- The sub-leaf `c` is one the rule speaks of. -/
def SubRule.covers (cfg : CpuidConfig) (c : Dword) : SubRule → Bool
  | .any => true
  | .only n => c.toNat == n
  | .cacheIndex => c.toNat < leaf04Count cfg
  | .level => c.toNat < leaf0BLevels cfg
  | .xsaveComponent => 2 ≤ c.toNat && xsaveSubleafValid cfg c.toNat

/-- The input ECX at which software reads a field of the rule: the first sub-leaf it covers. -/
def SubRule.index : SubRule → Dword
  | .any => 0
  | .only n => BitVec.ofNat 32 n
  | .cacheIndex => 0
  | .level => 0
  | .xsaveComponent => 2

/-- What a field's value depends on (41_cpuid_basic_leaves.md R150). -/
inductive FieldKind where
  /-- a constant of the part -/
  | part
  /-- machine state outside the four registers (00_scope.md R7), or the input ECX -/
  | dynamic
  /-- "Reserved": any value -/
  | reserved
  /-- "Reserved = 0" -/
  | reservedZero
  deriving DecidableEq, Repr

/-- One row of the field tables. -/
structure FieldRow where
  leaf : Dword
  sub : SubRule
  reg : OutReg
  hi : Nat
  lo : Nat
  kind : FieldKind
  name : String
  deriving DecidableEq, Repr

/-- The value of a row's field in an answer. -/
def FieldRow.read (f : FieldRow) (q : Quad) : Nat := field (outValue q f.reg) f.hi f.lo

/-- One row per bit, from `lo` upward; an empty name is a reserved bit. -/
def flagRows (leaf : Dword) (sub : SubRule) (reg : OutReg) : (lo : Nat) → List String → List FieldRow
  | _, [] => []
  | lo, n :: ns =>
    ⟨leaf, sub, reg, lo, lo, if n = "" then .reserved else .part, n⟩ :: flagRows leaf sub reg (lo + 1) ns

/-- Leaf 00H (R151). -/
def fields00 : List FieldRow :=
  [ ⟨0x00, .any, .eax, 31, 0, .part, "Maximum Input Value for Basic CPUID Information"⟩,
    ⟨0x00, .any, .ebx, 31, 0, .part, "vendor string characters 0 to 3"⟩,
    ⟨0x00, .any, .ecx, 31, 0, .part, "vendor string characters 8 to 11"⟩,
    ⟨0x00, .any, .edx, 31, 0, .part, "vendor string characters 4 to 7"⟩ ]

/-- Leaf 01H EAX and EBX (R156, R161). -/
def fields01Version : List FieldRow :=
  [ ⟨0x01, .any, .eax, 3, 0, .part, "Stepping ID"⟩,
    ⟨0x01, .any, .eax, 7, 4, .part, "Model"⟩,
    ⟨0x01, .any, .eax, 11, 8, .part, "Family ID"⟩,
    ⟨0x01, .any, .eax, 13, 12, .part, "Processor Type"⟩,
    ⟨0x01, .any, .eax, 15, 14, .reserved, ""⟩,
    ⟨0x01, .any, .eax, 19, 16, .part, "Extended Model ID"⟩,
    ⟨0x01, .any, .eax, 27, 20, .part, "Extended Family ID"⟩,
    ⟨0x01, .any, .eax, 31, 28, .reserved, ""⟩,
    ⟨0x01, .any, .ebx, 7, 0, .part, "Brand Index"⟩,
    ⟨0x01, .any, .ebx, 15, 8, .part, "CLFLUSH line size"⟩,
    ⟨0x01, .any, .ebx, 23, 16, .part, "Maximum number of addressable IDs for logical processors in this package"⟩,
    ⟨0x01, .any, .ebx, 31, 24, .dynamic, "Initial APIC ID"⟩ ]

/-- Leaf 01H ECX, the feature flags of bits 0 to 26 (R163). -/
def names01EcxLow : List String :=
  ["SSE3", "PCLMULQDQ", "DTES64", "MONITOR", "DS-CPL", "VMX", "SMX", "EST", "TM2", "SSSE3", "CNXT-ID", "SDBG", "FMA",
   "CMPXCHG16B", "xTPR Update Control", "PDCM", "", "PCID", "DCA", "SSE4.1", "SSE4.2", "x2APIC", "MOVBE", "POPCNT",
   "TSC-Deadline", "AES", "XSAVE"]

/-- Leaf 01H ECX (R163, R164). -/
def fields01Ecx : List FieldRow :=
  flagRows 0x01 .any .ecx 0 names01EcxLow
    ++ [⟨0x01, .any, .ecx, 27, 27, .dynamic, "OSXSAVE"⟩]
    ++ flagRows 0x01 .any .ecx 28 ["AVX", "F16C", "RDRAND"]
    ++ [⟨0x01, .any, .ecx, 31, 31, .reservedZero, "Always returns 0"⟩]

/-- Leaf 01H EDX (R165). -/
def fields01Edx : List FieldRow :=
  flagRows 0x01 .any .edx 0
    ["FPU", "VME", "DE", "PSE", "TSC", "MSR", "PAE", "MCE", "CX8", "APIC", "", "SEP", "MTRR", "PGE", "MCA", "CMOV",
     "PAT", "PSE-36", "PSN", "CLFSH", "", "DS", "ACPI", "MMX", "FXSR", "SSE", "SSE2", "SS", "HTT", "TM", "", "PBE"]

/-- Leaves 02H and 03H (R171, R175). -/
def fields02to03 : List FieldRow :=
  [ ⟨0x02, .any, .eax, 7, 0, .part, "number of executions for a complete description"⟩,
    ⟨0x02, .any, .eax, 31, 8, .part, "descriptors"⟩,
    ⟨0x02, .any, .ebx, 31, 0, .part, "descriptors"⟩,
    ⟨0x02, .any, .ecx, 31, 0, .part, "descriptors"⟩,
    ⟨0x02, .any, .edx, 31, 0, .part, "descriptors"⟩,
    ⟨0x03, .any, .eax, 31, 0, .reserved, ""⟩,
    ⟨0x03, .any, .ebx, 31, 0, .reserved, ""⟩,
    ⟨0x03, .any, .ecx, 31, 0, .part, "Bits 00-31 of 96 bit processor serial number"⟩,
    ⟨0x03, .any, .edx, 31, 0, .part, "Bits 32-63 of 96 bit processor serial number"⟩ ]

/-- Leaf 04H (R181 to R184). -/
def fields04 : List FieldRow :=
  [ ⟨0x04, .cacheIndex, .eax, 4, 0, .part, "Cache Type Field"⟩,
    ⟨0x04, .cacheIndex, .eax, 7, 5, .part, "Cache Level"⟩,
    ⟨0x04, .cacheIndex, .eax, 8, 8, .part, "Self Initializing cache level"⟩,
    ⟨0x04, .cacheIndex, .eax, 9, 9, .part, "Fully Associative cache"⟩,
    ⟨0x04, .cacheIndex, .eax, 13, 10, .reserved, ""⟩,
    ⟨0x04, .cacheIndex, .eax, 25, 14, .part, "Maximum number of addressable IDs for logical processors sharing this cache"⟩,
    ⟨0x04, .cacheIndex, .eax, 31, 26, .part, "Maximum number of addressable IDs for processor cores in the package"⟩,
    ⟨0x04, .cacheIndex, .ebx, 11, 0, .part, "System Coherency Line Size"⟩,
    ⟨0x04, .cacheIndex, .ebx, 21, 12, .part, "Physical Line partitions"⟩,
    ⟨0x04, .cacheIndex, .ebx, 31, 22, .part, "Ways of associativity"⟩,
    ⟨0x04, .cacheIndex, .ecx, 31, 0, .part, "Number of Sets"⟩,
    ⟨0x04, .cacheIndex, .edx, 0, 0, .part, "Write-Back Invalidate/Invalidate"⟩,
    ⟨0x04, .cacheIndex, .edx, 1, 1, .part, "Cache Inclusiveness"⟩,
    ⟨0x04, .cacheIndex, .edx, 2, 2, .part, "Complex Cache Indexing"⟩,
    ⟨0x04, .cacheIndex, .edx, 31, 3, .reservedZero, ""⟩ ]

/-- Leaf 05H (R188). -/
def fields05 : List FieldRow :=
  [ ⟨0x05, .any, .eax, 15, 0, .part, "Smallest monitor-line size in bytes"⟩,
    ⟨0x05, .any, .eax, 31, 16, .reservedZero, ""⟩,
    ⟨0x05, .any, .ebx, 15, 0, .part, "Largest monitor-line size in bytes"⟩,
    ⟨0x05, .any, .ebx, 31, 16, .reservedZero, ""⟩,
    ⟨0x05, .any, .ecx, 0, 0, .part, "Enumeration of Monitor-Mwait extensions supported"⟩,
    ⟨0x05, .any, .ecx, 1, 1, .part, "Supports treating interrupts as break-event for MWAIT"⟩,
    ⟨0x05, .any, .ecx, 31, 2, .reserved, ""⟩,
    ⟨0x05, .any, .edx, 3, 0, .part, "Number of C0 sub C-states supported using MWAIT"⟩,
    ⟨0x05, .any, .edx, 7, 4, .part, "Number of C1 sub C-states supported using MWAIT"⟩,
    ⟨0x05, .any, .edx, 11, 8, .part, "Number of C2 sub C-states supported using MWAIT"⟩,
    ⟨0x05, .any, .edx, 15, 12, .part, "Number of C3 sub C-states supported using MWAIT"⟩,
    ⟨0x05, .any, .edx, 19, 16, .part, "Number of C4 sub C-states supported using MWAIT"⟩,
    ⟨0x05, .any, .edx, 23, 20, .part, "Number of C5 sub C-states supported using MWAIT"⟩,
    ⟨0x05, .any, .edx, 27, 24, .part, "Number of C6 sub C-states supported using MWAIT"⟩,
    ⟨0x05, .any, .edx, 31, 28, .part, "Number of C7 sub C-states supported using MWAIT"⟩ ]

/-- Leaf 06H (R190). -/
def fields06 : List FieldRow :=
  flagRows 0x06 .any .eax 0
    ["Digital temperature sensor", "Intel Turbo Boost Technology Available", "ARAT", "", "PLN", "ECMD", "PTM", "HWP",
     "HWP_Notification", "HWP_Activity_Window", "HWP_Energy_Performance_Preference", "HWP_Package_Level_Request", "",
     "HDC", ""]
    ++ [ ⟨0x06, .any, .eax, 31, 15, .reserved, ""⟩,
      ⟨0x06, .any, .ebx, 3, 0, .part, "Number of Interrupt Thresholds in Digital Thermal Sensor"⟩,
      ⟨0x06, .any, .ebx, 31, 4, .reserved, ""⟩,
      ⟨0x06, .any, .ecx, 0, 0, .part, "Hardware Coordination Feedback Capability"⟩,
      ⟨0x06, .any, .ecx, 2, 1, .reservedZero, ""⟩,
      ⟨0x06, .any, .ecx, 3, 3, .part, "SETBH"⟩,
      ⟨0x06, .any, .ecx, 31, 4, .reservedZero, ""⟩,
      ⟨0x06, .any, .edx, 31, 0, .reservedZero, ""⟩ ]

/-- Leaf 07H sub-leaf 0 (R192). -/
def fields07 : List FieldRow :=
  [⟨0x07, .only 0, .eax, 31, 0, .part, "maximum input value for supported leaf 7 sub-leaves"⟩]
    ++ flagRows 0x07 (.only 0) .ebx 0
      ["FSGSBASE", "IA32_TSC_ADJUST", "", "BMI1", "HLE", "AVX2", "", "SMEP", "BMI2", "Enhanced REP MOVSB/STOSB",
       "INVPCID", "RTM", "PQM", "Deprecates FPU CS and FPU DS values", "", "PQE"]
    ++ [ ⟨0x07, .only 0, .ebx, 31, 16, .reserved, ""⟩,
      ⟨0x07, .only 0, .ecx, 31, 0, .reserved, ""⟩,
      ⟨0x07, .only 0, .edx, 31, 0, .reserved, ""⟩ ]

/-- A leaf whose four registers are "Reserved = 0" (R194, R208, R218, R264). -/
def zeroLeaf (leaf : Dword) : List FieldRow :=
  [ ⟨leaf, .any, .eax, 31, 0, .reservedZero, ""⟩,
    ⟨leaf, .any, .ebx, 31, 0, .reservedZero, ""⟩,
    ⟨leaf, .any, .ecx, 31, 0, .reservedZero, ""⟩,
    ⟨leaf, .any, .edx, 31, 0, .reservedZero, ""⟩ ]

/-- Leaf 09H (R195). -/
def fields09 : List FieldRow :=
  [ ⟨0x09, .any, .eax, 31, 0, .dynamic, "Value of bits [31:0] of IA32_PLATFORM_DCA_CAP MSR"⟩,
    ⟨0x09, .any, .ebx, 31, 0, .reserved, ""⟩,
    ⟨0x09, .any, .ecx, 31, 0, .reserved, ""⟩,
    ⟨0x09, .any, .edx, 31, 0, .reserved, ""⟩ ]

/-- Leaf 0AH (R197). -/
def fields0A : List FieldRow :=
  [ ⟨0x0A, .any, .eax, 7, 0, .part, "Version ID of architectural performance monitoring"⟩,
    ⟨0x0A, .any, .eax, 15, 8, .part, "Number of general-purpose performance monitoring counters"⟩,
    ⟨0x0A, .any, .eax, 23, 16, .part, "Bit width of general-purpose performance monitoring counter"⟩,
    ⟨0x0A, .any, .eax, 31, 24, .part, "Length of EBX bit vector"⟩,
    ⟨0x0A, .any, .ebx, 0, 0, .part, "Core cycle event not available"⟩,
    ⟨0x0A, .any, .ebx, 1, 1, .part, "Instruction retired event not available"⟩,
    ⟨0x0A, .any, .ebx, 2, 2, .part, "Reference cycles event not available"⟩,
    ⟨0x0A, .any, .ebx, 3, 3, .part, "Last-level cache reference event not available"⟩,
    ⟨0x0A, .any, .ebx, 4, 4, .part, "Last-level cache misses event not available"⟩,
    ⟨0x0A, .any, .ebx, 5, 5, .part, "Branch instruction retired event not available"⟩,
    ⟨0x0A, .any, .ebx, 6, 6, .part, "Branch mispredict retired event not available"⟩,
    ⟨0x0A, .any, .ebx, 31, 7, .reservedZero, ""⟩,
    ⟨0x0A, .any, .ecx, 31, 0, .reservedZero, ""⟩,
    ⟨0x0A, .any, .edx, 4, 0, .part, "Number of fixed-function performance counters"⟩,
    ⟨0x0A, .any, .edx, 12, 5, .part, "Bit width of fixed-function performance counters"⟩,
    ⟨0x0A, .any, .edx, 31, 13, .reservedZero, ""⟩ ]

/-- Leaf 0BH at a valid level (R201 to R205). -/
def fields0B : List FieldRow :=
  [ ⟨0x0B, .level, .eax, 4, 0, .part, "Number of bits to shift right on x2APIC ID"⟩,
    ⟨0x0B, .level, .eax, 31, 5, .reserved, ""⟩,
    ⟨0x0B, .level, .ebx, 15, 0, .part, "Number of logical processors at this level type"⟩,
    ⟨0x0B, .level, .ebx, 31, 16, .reserved, ""⟩,
    ⟨0x0B, .level, .ecx, 7, 0, .dynamic, "Level number"⟩,
    ⟨0x0B, .level, .ecx, 15, 8, .part, "Level type"⟩,
    ⟨0x0B, .level, .ecx, 31, 16, .reserved, ""⟩,
    ⟨0x0B, .level, .edx, 31, 0, .dynamic, "x2APIC ID"⟩ ]

/-- Leaf 0DH (R209 to R214). -/
def fields0D : List FieldRow :=
  [ ⟨0x0D, .only 0, .eax, 0, 0, .part, "XCR0: legacy x87"⟩,
    ⟨0x0D, .only 0, .eax, 1, 1, .part, "XCR0: 128-bit SSE"⟩,
    ⟨0x0D, .only 0, .eax, 2, 2, .part, "XCR0: 256-bit AVX"⟩,
    ⟨0x0D, .only 0, .eax, 31, 3, .reserved, ""⟩,
    ⟨0x0D, .only 0, .ebx, 31, 0, .dynamic, "Maximum size required by enabled features in XCR0"⟩,
    ⟨0x0D, .only 0, .ecx, 31, 0, .part, "Maximum size of the XSAVE/XRSTOR save area"⟩,
    ⟨0x0D, .only 0, .edx, 31, 0, .part, "valid bit fields of the upper 32 bits of XCR0"⟩,
    ⟨0x0D, .only 1, .eax, 0, 0, .part, "XSAVEOPT"⟩,
    ⟨0x0D, .only 1, .eax, 1, 1, .part, "XSAVEC"⟩,
    ⟨0x0D, .only 1, .eax, 2, 2, .part, "XGETBV with ECX = 1"⟩,
    ⟨0x0D, .only 1, .eax, 3, 3, .part, "XSAVES/XRSTORS and IA32_XSS"⟩,
    ⟨0x0D, .only 1, .eax, 31, 4, .reserved, ""⟩,
    ⟨0x0D, .only 1, .ebx, 31, 0, .dynamic, "size of the XSAVE area containing all states enabled by XCR0 | IA32_XSS"⟩,
    ⟨0x0D, .only 1, .ecx, 7, 0, .reserved, ""⟩,
    ⟨0x0D, .only 1, .ecx, 8, 8, .part, "IA32_XSS[bit 8]"⟩,
    ⟨0x0D, .only 1, .ecx, 31, 9, .reserved, ""⟩,
    ⟨0x0D, .only 1, .edx, 31, 0, .reserved, ""⟩,
    ⟨0x0D, .xsaveComponent, .eax, 31, 0, .part, "size of the component's save area"⟩,
    ⟨0x0D, .xsaveComponent, .ebx, 31, 0, .part, "offset of the component's save area"⟩,
    ⟨0x0D, .xsaveComponent, .ecx, 0, 0, .part, "maps to a valid bit in IA32_XSS"⟩,
    ⟨0x0D, .xsaveComponent, .ecx, 31, 1, .reserved, ""⟩,
    ⟨0x0D, .xsaveComponent, .edx, 31, 0, .reserved, ""⟩ ]

/-- Leaves 0FH and 10H (R219, R220, R222, R223). -/
def fieldsQos : List FieldRow :=
  [ ⟨0x0F, .only 0, .eax, 31, 0, .reserved, ""⟩,
    ⟨0x0F, .only 0, .ebx, 31, 0, .part, "Maximum range (zero-based) of RMID of all types"⟩,
    ⟨0x0F, .only 0, .ecx, 31, 0, .reserved, ""⟩,
    ⟨0x0F, .only 0, .edx, 0, 0, .reserved, ""⟩,
    ⟨0x0F, .only 0, .edx, 1, 1, .part, "Supports L3 Cache QoS Monitoring"⟩,
    ⟨0x0F, .only 0, .edx, 31, 2, .reserved, ""⟩,
    ⟨0x0F, .only 1, .eax, 31, 0, .reserved, ""⟩,
    ⟨0x0F, .only 1, .ebx, 31, 0, .part, "Conversion factor to occupancy metric (bytes)"⟩,
    ⟨0x0F, .only 1, .ecx, 31, 0, .part, "Maximum range (zero-based) of RMID of this resource type"⟩,
    ⟨0x0F, .only 1, .edx, 0, 0, .part, "Supports L3 occupancy monitoring"⟩,
    ⟨0x0F, .only 1, .edx, 31, 1, .reserved, ""⟩,
    ⟨0x10, .only 0, .eax, 31, 0, .reserved, ""⟩,
    ⟨0x10, .only 0, .ebx, 0, 0, .reserved, ""⟩,
    ⟨0x10, .only 0, .ebx, 1, 1, .part, "Supports L3 Cache QoS Enforcement"⟩,
    ⟨0x10, .only 0, .ebx, 31, 2, .reserved, ""⟩,
    ⟨0x10, .only 0, .ecx, 31, 0, .reserved, ""⟩,
    ⟨0x10, .only 0, .edx, 31, 0, .reserved, ""⟩,
    ⟨0x10, .only 1, .eax, 4, 0, .part, "Length of the capacity bit mask"⟩,
    ⟨0x10, .only 1, .eax, 31, 5, .reserved, ""⟩,
    ⟨0x10, .only 1, .ebx, 31, 0, .part, "Bit-granular map of isolation/contention of allocation units"⟩,
    ⟨0x10, .only 1, .ecx, 0, 0, .reserved, ""⟩,
    ⟨0x10, .only 1, .ecx, 1, 1, .part, "Updates of COS should be infrequent"⟩,
    ⟨0x10, .only 1, .ecx, 31, 2, .reserved, ""⟩,
    ⟨0x10, .only 1, .edx, 15, 0, .part, "Highest COS number supported for this ResID"⟩,
    ⟨0x10, .only 1, .edx, 31, 16, .reserved, ""⟩ ]

/-- Leaves 80000000H and 80000001H (R253, R255 to R257). -/
def fieldsExt01 : List FieldRow :=
  [ ⟨0x80000000, .any, .eax, 31, 0, .part, "Maximum Input Value for Extended Function CPUID Information"⟩,
    ⟨0x80000000, .any, .ebx, 31, 0, .reserved, ""⟩,
    ⟨0x80000000, .any, .ecx, 31, 0, .reserved, ""⟩,
    ⟨0x80000000, .any, .edx, 31, 0, .reserved, ""⟩,
    ⟨0x80000001, .any, .eax, 31, 0, .part, "Extended Processor Signature and Feature Bits"⟩,
    ⟨0x80000001, .any, .ebx, 31, 0, .reserved, ""⟩,
    ⟨0x80000001, .any, .ecx, 0, 0, .part, "LAHF/SAHF available in 64-bit mode"⟩,
    ⟨0x80000001, .any, .ecx, 4, 1, .reserved, ""⟩,
    ⟨0x80000001, .any, .ecx, 5, 5, .part, "LZCNT"⟩,
    ⟨0x80000001, .any, .ecx, 7, 6, .reserved, ""⟩,
    ⟨0x80000001, .any, .ecx, 8, 8, .part, "PREFETCHW"⟩,
    ⟨0x80000001, .any, .ecx, 31, 9, .reserved, ""⟩,
    ⟨0x80000001, .any, .edx, 10, 0, .reserved, ""⟩,
    ⟨0x80000001, .any, .edx, 11, 11, .part, "SYSCALL/SYSRET available in 64-bit mode"⟩,
    ⟨0x80000001, .any, .edx, 19, 12, .reservedZero, ""⟩,
    ⟨0x80000001, .any, .edx, 20, 20, .part, "Execute Disable Bit available"⟩,
    ⟨0x80000001, .any, .edx, 25, 21, .reservedZero, ""⟩,
    ⟨0x80000001, .any, .edx, 26, 26, .part, "1-GByte pages"⟩,
    ⟨0x80000001, .any, .edx, 27, 27, .part, "RDTSCP and IA32_TSC_AUX"⟩,
    ⟨0x80000001, .any, .edx, 28, 28, .reservedZero, ""⟩,
    ⟨0x80000001, .any, .edx, 29, 29, .part, "Intel 64 Architecture available"⟩,
    ⟨0x80000001, .any, .edx, 31, 30, .reservedZero, ""⟩ ]

/-- A leaf of the processor brand string (R260). -/
def brandLeaf (leaf : Dword) : List FieldRow :=
  [ ⟨leaf, .any, .eax, 31, 0, .part, "Processor Brand String"⟩,
    ⟨leaf, .any, .ebx, 31, 0, .part, "Processor Brand String"⟩,
    ⟨leaf, .any, .ecx, 31, 0, .part, "Processor Brand String"⟩,
    ⟨leaf, .any, .edx, 31, 0, .part, "Processor Brand String"⟩ ]

/-- Leaves 80000006H to 80000008H (R265, R267, R268). -/
def fieldsExt68 : List FieldRow :=
  [ ⟨0x80000006, .any, .eax, 31, 0, .reservedZero, ""⟩,
    ⟨0x80000006, .any, .ebx, 31, 0, .reservedZero, ""⟩,
    ⟨0x80000006, .any, .ecx, 7, 0, .part, "Cache Line size in bytes"⟩,
    ⟨0x80000006, .any, .ecx, 11, 8, .reserved, ""⟩,
    ⟨0x80000006, .any, .ecx, 15, 12, .part, "L2 Associativity field"⟩,
    ⟨0x80000006, .any, .ecx, 31, 16, .part, "Cache size in 1K units"⟩,
    ⟨0x80000006, .any, .edx, 31, 0, .reservedZero, ""⟩,
    ⟨0x80000007, .any, .eax, 31, 0, .reservedZero, ""⟩,
    ⟨0x80000007, .any, .ebx, 31, 0, .reservedZero, ""⟩,
    ⟨0x80000007, .any, .ecx, 31, 0, .reservedZero, ""⟩,
    ⟨0x80000007, .any, .edx, 7, 0, .reservedZero, ""⟩,
    ⟨0x80000007, .any, .edx, 8, 8, .part, "Invariant TSC"⟩,
    ⟨0x80000007, .any, .edx, 31, 9, .reservedZero, ""⟩,
    ⟨0x80000008, .any, .eax, 7, 0, .part, "#Physical Address Bits"⟩,
    ⟨0x80000008, .any, .eax, 15, 8, .part, "#Linear Address Bits"⟩,
    ⟨0x80000008, .any, .eax, 31, 16, .reservedZero, ""⟩,
    ⟨0x80000008, .any, .ebx, 31, 0, .reservedZero, ""⟩,
    ⟨0x80000008, .any, .ecx, 31, 0, .reservedZero, ""⟩,
    ⟨0x80000008, .any, .edx, 31, 0, .reservedZero, ""⟩ ]

/-- The fields of the basic leaves (41_cpuid_basic_leaves.md). -/
def basicFields : List FieldRow :=
  fields00 ++ fields01Version ++ fields01Ecx ++ fields01Edx ++ fields02to03 ++ fields04 ++ fields05 ++ fields06
    ++ fields07 ++ zeroLeaf 0x08 ++ fields09 ++ fields0A ++ fields0B ++ zeroLeaf 0x0C ++ fields0D ++ zeroLeaf 0x0E
    ++ fieldsQos

/-- The fields of the extended leaves (43_cpuid_extended_leaves.md). -/
def extendedFields : List FieldRow :=
  fieldsExt01 ++ brandLeaf 0x80000002 ++ brandLeaf 0x80000003 ++ brandLeaf 0x80000004 ++ zeroLeaf 0x80000005
    ++ fieldsExt68

/-- Every field of every leaf the spec describes. -/
def leafFields : List FieldRow := basicFields ++ extendedFields

/-- The row of a leaf's feature flag, by its name (00_scope.md R11: `CPUID.01H:ECX.SSE[bit 25]`). -/
def featureRow (leaf : Dword) (name : String) : Option FieldRow :=
  leafFields.find? fun f => f.leaf == leaf && f.name == name

/-- A feature flag of an answer, read at its row's sub-leaf: XSAVEC of leaf 0DH is a bit of sub-leaf 1
(41_cpuid_basic_leaves.md R211). -/
def hasFeature (answer : Dword → Dword → Quad) (leaf : Dword) (name : String) : Bool :=
  match featureRow leaf name with
  | none => false
  | some f => f.read (answer leaf f.sub.index) != 0

/-- Two rows speak of the same register of the same answer. -/
def sameRegister (f g : FieldRow) : Bool := f.leaf == g.leaf && f.sub == g.sub && f.reg == g.reg

/-- The rows tile their registers: in table order the rows of one register run from bit 0 to bit 31 without gap or
overlap.  `prev` is the row before. -/
def tiled : (prev : Option FieldRow) → List FieldRow → Bool
  | none, [] => true
  | some p, [] => p.hi == 31
  | none, f :: fs => f.lo == 0 && f.lo ≤ f.hi && tiled (some f) fs
  | some p, f :: fs =>
    (if sameRegister p f then f.lo == p.hi + 1 else p.hi == 31 && f.lo == 0) && f.lo ≤ f.hi && tiled (some f) fs

end Sys2Proof.Machine
end

