-- ==== Sys2Proof/Machine/Identification.lean ====
section
/-! DEFINITION. The procedures software builds on CPUID results (44_cpuid_identification.md) and the formulas of the
leaf files: pure functions of register values, no behaviour of the processor. -/

namespace Sys2Proof.Machine

/-- What a program sees of CPUID: the four registers for an input EAX and ECX. -/
abbrev CpuidView := Dword → Dword → Quad

/-! ### Version information (41_cpuid_basic_leaves.md R156) -/

def steppingId (eax : Dword) : Nat := field eax 3 0
def modelId (eax : Dword) : Nat := field eax 7 4
def familyId (eax : Dword) : Nat := field eax 11 8
def processorType (eax : Dword) : Nat := field eax 13 12
def extendedModelId (eax : Dword) : Nat := field eax 19 16
def extendedFamilyId (eax : Dword) : Nat := field eax 27 20

/-- DisplayFamily, a natural number (44_cpuid_identification.md R282). -/
def displayFamily (eax : Dword) : Nat :=
  if familyId eax ≠ 0x0F then familyId eax else extendedFamilyId eax + familyId eax

/-- DisplayModel (44_cpuid_identification.md R282). -/
def displayModel (eax : Dword) : Nat :=
  if familyId eax = 0x06 ∨ familyId eax = 0x0F then extendedModelId eax <<< 4 + modelId eax else modelId eax

/-- The meanings of the Processor Type field (41_cpuid_basic_leaves.md R157).  PRESUMED (G13, log 42). -/
def processorTypeName : Nat → Option String
  | 0 => some "Original OEM Processor"
  | 1 => some "Intel OverDrive Processor"
  | 2 => some "Dual processor"
  | 3 => some "Intel reserved"
  | _ => none

/-- Table 3-18: highest basic and highest extended leaf of the processors it lists, in order; `none` in the first
place "CPUID not implemented", in the second "not implemented" (41_cpuid_basic_leaves.md R153). -/
def highestLeaves : List (Option Dword × Option Dword) :=
  [ (none, none), (some 0x01, none), (some 0x02, none), (some 0x03, none), (some 0x02, some 0x80000004),
    (some 0x02, some 0x80000004), (some 0x02, some 0x80000004), (some 0x05, some 0x80000008),
    (some 0x05, some 0x80000008), (some 0x06, some 0x80000008), (some 0x0A, some 0x80000008),
    (some 0x0A, some 0x80000008), (some 0x0A, some 0x80000008), (some 0x0D, some 0x80000008),
    (some 0x0A, some 0x80000008), (some 0x0A, some 0x80000008), (some 0x0B, some 0x80000008) ]

/-! ### APIC ids (41_cpuid_basic_leaves.md R162, R181) -/

/-- The least power of two, from `p`, that is not smaller than `v`, within `fuel` doublings. -/
def powerFrom (v : Nat) : (fuel p : Nat) → Nat
  | 0, p => p
  | fuel + 1, p => if v ≤ p then p else powerFrom v fuel (2 * p)

/-- "The nearest power-of-2 integer that is not smaller than" a number, for a number of at least 1: the rule does not
give its value at 0, and no definition asks for it there (41_cpuid_basic_leaves.md R162, log 46). -/
def idCount (v : Nat) : Nat := powerFrom v v 1

/-- Unique initial APIC IDs reserved for the logical processors of the package.  `none` where the field is not valid,
HTT = 0, or the rule gives no number, EBX[23:16] = 0 (41_cpuid_basic_leaves.md R162, log 46). -/
def packageApicIds (leaf01 : Quad) : Option Nat :=
  if bit leaf01.edx 28 && field leaf01.ebx 23 16 != 0 then some (idCount (field leaf01.ebx 23 16)) else none

/-- Unique initial APIC IDs reserved for the logical processors sharing a cache (41_cpuid_basic_leaves.md R181). -/
def cacheApicIds (leaf04 : Quad) : Nat := idCount (1 + field leaf04.eax 25 14)

/-- Unique Core_IDs reserved for the processor cores in a package (41_cpuid_basic_leaves.md R181). -/
def packageCoreIds (leaf04 : Quad) : Nat := idCount (1 + field leaf04.eax 31 26)

/-- The CLFLUSH line size in bytes: value * 8 (41_cpuid_basic_leaves.md R161). -/
def clflushBytes (leaf01 : Quad) : Nat := field leaf01.ebx 15 8 * 8

/-! ### Caches (41_cpuid_basic_leaves.md R180 to R186) -/

/-- The meanings of the Cache Type field (41_cpuid_basic_leaves.md R181). -/
inductive CacheType where
  /-- 0: no more caches -/
  | null
  | data | instruction | unified
  /-- 4 to 31 -/
  | reserved
  deriving DecidableEq, Repr

/-- The Cache Type of a leaf 04H answer, EAX[4:0] (41_cpuid_basic_leaves.md R181). -/
def cacheType (leaf04 : Quad) : CacheType :=
  match field leaf04.eax 4 0 with
  | 0 => .null
  | 1 => .data
  | 2 => .instruction
  | 3 => .unified
  | _ => .reserved

/-- The Cache Level of a leaf 04H answer, EAX[7:5], which "starts at 1" (41_cpuid_basic_leaves.md R181); that it does is
a constraint of the part, `GoodConfig.cacheLevels`. -/
def cacheLevel (leaf04 : Quad) : Nat := field leaf04.eax 7 5

/-- "This Cache Size in Bytes", a natural number (41_cpuid_basic_leaves.md R185). -/
def cacheBytes (leaf04 : Quad) : Nat :=
  (field leaf04.ebx 31 22 + 1) * (field leaf04.ebx 21 12 + 1) * (field leaf04.ebx 11 0 + 1) * (leaf04.ecx.toNat + 1)

/-- The enumeration of leaf 04H: the answers from index `k` on, up to the first of cache type 0
(41_cpuid_basic_leaves.md R180). -/
def enumerateCaches (view : CpuidView) : (fuel k : Nat) → List Quad
  | 0, _ => []
  | fuel + 1, k =>
    let q := view 0x04 (BitVec.ofNat 32 k)
    if cacheType q = .null then [] else q :: enumerateCaches view fuel (k + 1)

/-- The L2 associativity of leaf 80000006H: ways, 0 disabled, 1 direct mapped, `none` fully associative or not
assigned (43_cpuid_extended_leaves.md R265). -/
inductive L2Associativity where
  | disabled | directMapped
  | ways (n : Nat)
  | fullyAssociative
  | notDescribed
  deriving DecidableEq, Repr

/-- The encodings of the L2 associativity field (43_cpuid_extended_leaves.md R265, U22). -/
def l2Associativity (ecx : Dword) : L2Associativity :=
  match field ecx 15 12 with
  | 0x0 => .disabled
  | 0x1 => .directMapped
  | 0x2 => .ways 2
  | 0x4 => .ways 4
  | 0x6 => .ways 8
  | 0x8 => .ways 16
  | 0xF => .fullyAssociative
  | _ => .notDescribed

/-! ### Topology and extended state (41_cpuid_basic_leaves.md R200 to R216) -/

/-- Leaf 0BH is present: it is in range and EBX[15:0] of it is not zero (41_cpuid_basic_leaves.md R206). -/
def leaf0BPresent (view : CpuidView) : Bool :=
  0x0B ≤ (view 0 0).eax && field (view 0x0B 0).ebx 15 0 != 0

/-- The topology ID of the next level: the x2APIC ID shifted right by EAX[4:0] (41_cpuid_basic_leaves.md R201). -/
def nextLevelId (leaf0B : Quad) : Nat := leaf0B.edx.toNat >>> field leaf0B.eax 4 0

/-- The encoding of the level type (41_cpuid_basic_leaves.md R203); its values are not related to level numbers. -/
inductive LevelType where
  | invalid | smt | core
  /-- 3 to 255 -/
  | reserved
  deriving DecidableEq, Repr

/-- The level type of a leaf 0BH answer, ECX[15:8] (41_cpuid_basic_leaves.md R203). -/
def levelType (leaf0B : Quad) : LevelType :=
  match field leaf0B.ecx 15 8 with
  | 0 => .invalid
  | 1 => .smt
  | 2 => .core
  | _ => .reserved

/-- The enumeration of a leaf 0BH: the answers from level `k` on, up to the first of level type 0,
invalid (41_cpuid_basic_leaves.md R203). -/
def enumerateLevels (view : CpuidView) : (fuel k : Nat) → List Quad
  | 0, _ => []
  | fuel + 1, k =>
    let q := view 0x0B (BitVec.ofNat 32 k)
    if levelType q = .invalid then [] else q :: enumerateLevels view fuel (k + 1)

/-- The sub-leaves of a leaf that a mask of bit positions names, of `count` positions from `first` on, each with its
answer; a sub-leaf whose bit is clear is not asked for, and the iteration goes on past it (DEDUCED from the loop of R216
and from R219 and R222, log 46; 70_reset_and_hazards.md R416). -/
def enumerateMasked (view : CpuidView) (leaf : Dword) (mask : Qword) (first count : Nat) : List (Nat × Quad) :=
  ((List.range count).map (· + first)).filterMap fun i =>
    if mask.getLsbD i then some (i, view leaf (BitVec.ofNat 32 i)) else none

/-- The vector EDX:EAX of leaf 0DH sub-leaf 0 (41_cpuid_basic_leaves.md R209). -/
def xcr0Vector (view : CpuidView) : Qword := (view 0x0D 0).edx ++ (view 0x0D 0).eax

/-- The vector EDX:ECX of leaf 0DH sub-leaf 1 (41_cpuid_basic_leaves.md R213). -/
def xssVector (view : CpuidView) : Qword := (view 0x0D 1).edx ++ (view 0x0D 1).ecx

/-- The page's enumeration of leaf 0DH: for i = 2 to 62, when bit i of EDX:EAX of sub-leaf 0 is 1, the size and offset of
component i (41_cpuid_basic_leaves.md R216). -/
def enumerateXsave (view : CpuidView) : List (Nat × Dword × Dword) :=
  (enumerateMasked view 0x0D (xcr0Vector view) 2 61).map fun (i, q) => (i, q.eax, q.ebx)

/-- The enumeration of every valid sub-leaf of leaf 0DH from 2 on: its bit is set in the mask of sub-leaf 0 or in that
of sub-leaf 1 (70_reset_and_hazards.md R416; 41_cpuid_basic_leaves.md R214, R215). -/
def enumerateXsaveSubleaves (view : CpuidView) : List (Nat × Quad) :=
  enumerateMasked view 0x0D (xcr0Vector view ||| xssVector view) 2 62

/-- The enumeration of leaf 0FH: the sub-leaf of each ResID whose bit is set in EDX of sub-leaf 0, bits 1 to 31
(41_cpuid_basic_leaves.md R219; 70_reset_and_hazards.md R416). -/
def enumerateMonitoring (view : CpuidView) : List (Nat × Quad) :=
  enumerateMasked view 0x0F ((view 0x0F 0).edx.setWidth 64) 1 31

/-- The enumeration of leaf 10H: the sub-leaf of each ResID whose bit is set in EBX of sub-leaf 0, bits 1 to 31
(41_cpuid_basic_leaves.md R222; 90_conflicts.md C5; 70_reset_and_hazards.md R416). -/
def enumerateEnforcement (view : CpuidView) : List (Nat × Quad) :=
  enumerateMasked view 0x10 ((view 0x10 0).ebx.setWidth 64) 1 31

/-- Architectural performance monitoring is supported: its version ID is above 0 (41_cpuid_basic_leaves.md R197). -/
def perfmonSupported (leaf0A : Quad) : Bool := field leaf0A.eax 7 0 != 0

/-- The processor serial number's low 64 bits, where the flag PSN says it is there (41_cpuid_basic_leaves.md R175). -/
def serialNumberLow (view : CpuidView) : Option Qword :=
  if bit (view 1 0).edx 18 then some ((view 3 0).edx ++ (view 3 0).ecx) else none

/-! ### Strings -/

/-- The four bytes of a register, bits 7:0 first. -/
def bytesOf (x : Dword) : List Byte :=
  [x.extractLsb' 0 8, x.extractLsb' 8 8, x.extractLsb' 16 8, x.extractLsb' 24 8]

/-- The vendor string: EBX, EDX, ECX of leaf 00H (41_cpuid_basic_leaves.md R152). -/
def vendorString (leaf00 : Quad) : List Byte := bytesOf leaf00.ebx ++ bytesOf leaf00.edx ++ bytesOf leaf00.ecx

/-- The 16 bytes of one brand-string leaf: EAX, EBX, ECX, EDX (43_cpuid_extended_leaves.md R261). -/
def brandBytes16 (q : Quad) : List Byte := bytesOf q.eax ++ bytesOf q.ebx ++ bytesOf q.ecx ++ bytesOf q.edx

/-- The 48 bytes of the brand string (43_cpuid_extended_leaves.md R261). -/
def brandBytes (view : CpuidView) : List Byte :=
  brandBytes16 (view 0x80000002 0) ++ brandBytes16 (view 0x80000003 0) ++ brandBytes16 (view 0x80000004 0)

/-- The brand string: the bytes before the NUL (43_cpuid_extended_leaves.md R260). -/
def brandString (view : CpuidView) : List Byte := (brandBytes view).takeWhile fun b => b != 0

/-- The algorithm of Figure 3-8 (44_cpuid_identification.md R286). -/
def brandStringSupported (view : CpuidView) : Bool :=
  let eax := (view 0x80000000 0).eax
  0x80000000 ≤ eax && 0x80000004 ≤ eax

/-! ### The maximum frequency in a brand string (44_cpuid_identification.md R287)

Figure 3-9 is lost; this is the usual algorithm, PRESUMED (log 42): no statement rests on it.  That the first unit of
several counts and that a fraction of a Hz is dropped is the model's own, DESIGN CHOICE (log 42). -/

/-- The multiplier of a unit: "MHz", "GHz" or "THz". -/
def unitMultiplier : List Byte → Option Nat
  | 0x4D :: 0x48 :: 0x7A :: _ => some (10 ^ 6)
  | 0x47 :: 0x48 :: 0x7A :: _ => some (10 ^ 9)
  | 0x54 :: 0x48 :: 0x7A :: _ => some (10 ^ 12)
  | _ => none

/-- The first unit in a string, the one that counts (DESIGN CHOICE, log 42): the bytes before it, last first, and its multiplier. -/
def splitAtUnit : (before rest : List Byte) → Option (List Byte × Nat)
  | _, [] => none
  | before, b :: rest =>
    match unitMultiplier (b :: rest) with
    | some m => some (before, m)
    | none => splitAtUnit (b :: before) rest

/-- A decimal digit's value. -/
def digitOf (b : Byte) : Option Nat := if 0x30 ≤ b ∧ b ≤ 0x39 then some (b.toNat - 0x30) else none

/-- A decimal number: all digits as one number, and how many of them stand after the point.  DESIGN CHOICE (log 42):
digits with at most one point, before, among or after them. -/
def decimalOf : (value places : Nat) → (afterPoint : Bool) → List Byte → Option (Nat × Nat)
  | v, p, _, [] => some (v, p)
  | v, p, seen, b :: rest =>
    if b = 0x2E then (if seen then none else decimalOf v p true rest)
    else match digitOf b with
      | none => none
      | some d => decimalOf (10 * v + d) (if seen then p + 1 else p) seen rest

/-- The maximum qualified frequency in Hz that a brand string names: the decimal number before the unit, back to the
previous blank.  Without a digit there is no number, and a fraction of a Hz is dropped (DESIGN
CHOICE, log 42). -/
def maximumFrequency (brand : List Byte) : Option Nat :=
  match splitAtUnit [] brand with
  | none => none
  | some (before, m) =>
    let digits := (before.takeWhile fun b => b != 0x20).reverse
    if digits.all fun b => b = 0x2E then none
    else match decimalOf 0 0 false digits with
      | none => none
      | some (v, places) => some (v * m / 10 ^ places)

/-! ### The brand index (44_cpuid_identification.md R290, R291) -/

/-- A row of Table 3-24 (44_cpuid_identification.md R291): the index, the brand string, whether note 1 stands on it
("versions of these processors that were introduced after the Pentium III"), and the other string of one signature. -/
structure BrandRow where
  index : Byte
  name : String
  note1 : Bool
  exception : Option (Dword × String)
  deriving DecidableEq, Repr

/-- Rows 1 to 21 of Table 3-24.  The strings are the source's; every index but 00H is PRESUMED (G15, log 42). -/
def brandIndexTable : List BrandRow :=
  [ ⟨0x00, "This processor does not support the brand identification feature", false, none⟩,
    ⟨0x01, "Intel(R) Celeron(R) processor", true, none⟩,
    ⟨0x02, "Intel(R) Pentium(R) III processor", true, none⟩,
    ⟨0x03, "Intel(R) Pentium(R) III Xeon(R) processor", false, some (0x000006B1, "Intel(R) Celeron(R) processor")⟩,
    ⟨0x04, "Intel(R) Pentium(R) III processor", false, none⟩,
    ⟨0x06, "Mobile Intel(R) Pentium(R) III processor-M", false, none⟩,
    ⟨0x07, "Mobile Intel(R) Celeron(R) processor", true, none⟩,
    ⟨0x08, "Intel(R) Pentium(R) 4 processor", false, none⟩,
    ⟨0x09, "Intel(R) Pentium(R) 4 processor", false, none⟩,
    ⟨0x0A, "Intel(R) Celeron(R) processor", true, none⟩,
    ⟨0x0B, "Intel(R) Xeon(R) processor", false, some (0x00000F13, "Intel(R) Xeon(R) processor MP")⟩,
    ⟨0x0C, "Intel(R) Xeon(R) processor MP", false, none⟩,
    ⟨0x0E, "Mobile Intel(R) Pentium(R) 4 processor-M", false, some (0x00000F13, "Intel(R) Xeon(R) processor")⟩,
    ⟨0x0F, "Mobile Intel(R) Celeron(R) processor", true, none⟩,
    ⟨0x11, "Mobile Genuine Intel(R) processor", false, none⟩,
    ⟨0x12, "Intel(R) Celeron(R) M processor", false, none⟩,
    ⟨0x13, "Mobile Intel(R) Celeron(R) processor", true, none⟩,
    ⟨0x14, "Intel(R) Celeron(R) processor", false, none⟩,
    ⟨0x15, "Mobile Genuine Intel(R) processor", false, none⟩,
    ⟨0x16, "Intel(R) Pentium(R) M processor", false, none⟩,
    ⟨0x17, "Mobile Intel(R) Celeron(R) processor", true, none⟩ ]

/-- The first index of row 22 of Table 3-24, "18H to 0FFH RESERVED" (PRESUMED as an index, G15, log 42). -/
def brandIndexReservedFrom : Byte := 0x18

/-- What Table 3-24 says of an index. -/
inductive BrandIndexMeaning where
  /-- a brand string, and whether note 1 stands on it -/
  | brand (name : String) (note1 : Bool)
  /-- row 22 -/
  | reserved
  /-- an index of no row: 05H, 0DH and 10H -/
  | notListed
  deriving DecidableEq, Repr

/-- A row's brand string on a processor of a signature, the whole EAX of leaf 01H. -/
def BrandRow.nameFor (r : BrandRow) (signature : Dword) : String :=
  match r.exception with
  | some (sig, other) => if signature = sig then other else r.name
  | none => r.name

/-- The meaning of a brand index on a processor of a signature (44_cpuid_identification.md R291). -/
def brandIndexMeaning (index : Byte) (signature : Dword) : BrandIndexMeaning :=
  match brandIndexTable.find? fun r => r.index == index with
  | some r => .brand (r.nameFor signature) r.note1
  | none => if brandIndexReservedFrom ≤ index then .reserved else .notListed

/-- The signature is family ID 0FH, model 03H or a later one.  DESIGN CHOICE (log 46): "starting with" orders signatures
by DisplayFamily, then DisplayModel (44_cpuid_identification.md R282, R290). -/
def fromFamily0FModel03 (signature : Dword) : Bool :=
  0x0F < displayFamily signature || (displayFamily signature == 0x0F && 0x03 ≤ displayModel signature)

/-- The brand index method is supported: index 0 is reserved, and "starting with processor signature family ID = 0FH,
model = 03H, brand index method is no longer supported" (44_cpuid_identification.md R290). -/
def brandIndexSupported (leaf01 : Quad) : Bool := field leaf01.ebx 7 0 != 0 && !fromFamily0FModel03 leaf01.eax

/-! ### The protocol (44_cpuid_identification.md R294) -/

/-- A basic leaf may be asked for: it is at most the maximum that leaf 0 reports. -/
def basicInRange (view : CpuidView) (a : Dword) : Bool := a ≤ (view 0 0).eax

/-- An extended leaf may be asked for: the answer to 80000000H is a maximum, and the leaf is at most it. -/
def extendedInRange (view : CpuidView) (a : Dword) : Bool :=
  0x80000000 ≤ (view 0x80000000 0).eax && 0x80000000 ≤ a && a ≤ (view 0x80000000 0).eax

/-- Step 3 asks more of leaf 0BH than a non-zero answer: EBX[15:0] of it is not zero (41_cpuid_basic_leaves.md R206). -/
def leafDetected (view : CpuidView) (a : Dword) : Bool := a != 0x0B || leaf0BPresent view

/-- Steps 3 and 4: the answer of a leaf that is in range, detected and not all zero; "leaf not supported" otherwise.
DESIGN CHOICE (log 46): step 3's all-zero test is applied to the extended leaves of step 4 too. -/
def supportedLeaf (view : CpuidView) (a c : Dword) : Option Quad :=
  if (basicInRange view a || extendedInRange view a) && leafDetected view a && view a c != Quad.zero then some (view a c)
  else none

/-- Step 5: a feature is present when its leaf is supported and its flag, in the sub-leaf that holds it, is set. -/
def featureConfirmed (view : CpuidView) (leaf : Dword) (name : String) : Bool :=
  match featureRow leaf name with
  | none => false
  | some f => (supportedLeaf view leaf f.sub.index).isSome && hasFeature view leaf name

end Sys2Proof.Machine
end

