-- ==== Sys2Proof/Safety.lean ====
section
/-! DEFINITION. What counts as a good configuration, a good launch and a good state, and how a run ends. -/

namespace Sys2Proof.Machine

/-- The 48 bytes that the part records for the brand string (43_cpuid_extended_leaves.md R261). -/
def recordedBrand (cfg : CpuidConfig) : List Byte :=
  [0x80000002, 0x80000003, 0x80000004].flatMap fun a => brandBytes16 (rawLeaf cfg a 0)

/-- They end a string, "the returned string will be NULL-terminated": some byte is 00H (43_cpuid_extended_leaves.md
R260). -/
def brandTerminated (cfg : CpuidConfig) : Bool := (recordedBrand cfg).any fun b => b == 0

/-- They are ASCII characters (43_cpuid_extended_leaves.md R260). -/
def brandAscii (cfg : CpuidConfig) : Bool := (recordedBrand cfg).all fun b => b < 0x80

/-- The constraints a part must meet beyond those `leafData` makes hold by construction (00_scope.md R6;
41_cpuid_basic_leaves.md R171, R181, R192; 43_cpuid_extended_leaves.md R250, R252, R257, R260). -/
structure GoodConfig (cfg : CpuidConfig) : Prop where
  maxBasicLow : cfg.cpuidSupported = true → 1 ≤ cfg.maxBasic
  maxBasicHigh : cfg.maxBasic < 0x40000000
  maxExtLow : cfg.extImplemented = true → 0x80000000 ≤ cfg.maxExt
  vendorIntel : cfg.vendor = genuineIntel
  intel64Flag : (cfg.intel64 = true) ↔
    (cfg.extImplemented = true ∧ 0x80000001 ≤ cfg.maxExt ∧ bit (rawLeaf cfg 0x80000001 0).edx 29 = true)
  leaf02Once : leaf02Repeats cfg = false
  cacheLevels : ∀ k, k < leaf04Count cfg → 1 ≤ cacheLevel (rawLeaf cfg 0x04 (BitVec.ofNat 32 k))
  leaf07One : (rawLeaf cfg 0x07 0).eax = 0
  brandEnds : cfg.extImplemented = true ∧ 0x80000004 ≤ cfg.maxExt → brandTerminated cfg = true
  brandChars : cfg.extImplemented = true → brandAscii cfg = true

/-- EFLAGS holds named bits only (10_state.md R28, U15). -/
def FlagsNamed (s : State) : Prop := s.eflags &&& ~~~maskNamed = 0

/-- EFLAGS.VM = 0 when IA32_EFER.LMA = 1 (70_reset_and_hazards.md R411). -/
def NoVmInIa32e (s : State) : Prop := s.msr.lma = true → flagOf s.eflags .vm = false

/-- In virtual-8086 mode CPL is 3 (60_exceptions.md R379, R395). -/
def V86AtCpl3 (s : State) : Prop := modeOf s = .virtual8086 → s.cpl = 3

/-- Outside 64-bit mode the instruction pointer is EIP, 32 bits (10_state.md R25). -/
def EipOutsideBits64 (s : State) : Prop := modeOf s ≠ .bits64 → s.rip.toNat < 2 ^ 32

/-- In protected and IA-32e mode the RPL of CS is the CPL (45_iret.md R353). -/
def CsHoldsCpl (s : State) : Prop :=
  s.cr.pe = true → modeOf s ≠ .virtual8086 → rplOf s.cs.sel = s.cpl

/-- The invariant of the machine: what every step keeps. -/
structure Inv (s : State) : Prop where
  memory : s.mem.wf
  flags : FlagsNamed s
  ia32e : NoVmInIa32e s
  v86 : V86AtCpl3 s
  eip : EipOutsideBits64 s
  cpl : CsHoldsCpl s

/-- What a launch must meet (70_reset_and_hazards.md R411).  That it has CPL equal to the RPL of CS in protected and
IA-32e mode, through `Inv`, is not in R411's list (DESIGN CHOICE, log 45). -/
structure GoodLaunch (s : State) : Prop where
  config : GoodConfig s.cfg
  inv : Inv s
  lmaNeeds : s.msr.lma = true → s.cfg.intel64 = true ∧ s.cr.pe = true

/-- How a run stands: it goes on, it reached the address the launch names as the end, or it stopped (00_scope.md
R18). -/
inductive RunStatus where
  | running (s : State)
  | ended (s : State)
  | faulted (f : Fault)
  | refused (r : Refusal)
  deriving DecidableEq, Repr

/-- At most `n` steps to the end address of the launch (00_scope.md R18). -/
def runTo (finalRip : Qword) : Nat → State → RunStatus
  | 0, s => if s.rip = finalRip then .ended s else .running s
  | n + 1, s =>
    if s.rip = finalRip then .ended s
    else match step s with
      | .next t => runTo finalRip n t
      | .fault f => .faulted f
      | .refused r => .refused r

/-- A safe run never faults and never reaches a step without a meaning. -/
def SafeRun (finalRip : Qword) (n : Nat) (s : State) : Prop := ∃ t, runTo finalRip n s = .ended t

/-! ### The terms the statements use for an interrupt return -/

/-- The operand size of an interrupt return; `none` for the other instructions. -/
def returnSize : Instr → Option OpSize
  | .cpuid => none
  | .iret => some .w16
  | .iretd => some .w32
  | .iretq _ => some .w64
  | .lockCpuid => none
  | .lockIretIretd => none
  | .lockIretq _ => none

/-- The bytes of items `first` to `first + count - 1` pass the stack test of the current mode (20_memory.md R67). -/
def FrameOnStack (s : State) (sz : OpSize) (first count : Nat) : Prop := stackTest s sz first count .zero = []

/-- Those items can be read: no page fault, no alignment check, no byte of a device (45_iret.md R362, R399). -/
def FrameReadable (s : State) (sz : OpSize) (first count : Nat) : Prop :=
  frameFaults s sz first count = [] ∧ frameTouchesApic s sz first count = false

/-- The interrupt return `i` of size `sz`, in protected or IA-32e mode, has popped what it pops before its checks on
the code segment, and does not return to virtual-8086 mode (45_iret.md R315, R356). -/
structure PoppedForChecks (s : State) (i : Instr) (sz : OpSize) : Prop where
  size : returnSize i = some sz
  vmx : s.plat.vmxNonRoot = false
  mode : ((modeOf s = .protectedMode ∨ modeOf s = .compatibility) ∧ sz ≠ .w64) ∨ modeOf s = .bits64
  nt : flagOf s.eflags .nt = false
  onStack : FrameOnStack s sz 0 (ia32eItems sz)
  readable : FrameReadable s sz 0 (ia32eItems sz)
  notToV86 : modeOf s = .protectedMode → s.cpl = 0 → flagOf (frameFlags s sz) .vm = false

/-- A selector whose descriptor `d` can be fetched (20_memory.md R70). -/
def Fetchable (s : State) (sel : Word) (d : Descriptor) : Prop :=
  fetchFaults s sel = [] ∧ fetchTouchesApic s sel = false ∧ descriptorOf s sel = d

/-- `d` is a return code segment that passes every check of 45_iret.md R322 to R328 and R330. -/
structure GoodCodeSegment (s : State) (sel : Word) (d : Descriptor) : Prop where
  notNull : isNull sel = false
  fetched : Fetchable s sel d
  kind : (d.kind = .code true ∧ d.dpl ≤ rplOf sel) ∨ (d.kind = .code false ∧ d.dpl = rplOf sel)
  level : s.cpl ≤ rplOf sel
  present : d.present = true
  sizes : s.msr.lma = true → ¬(d.db = true ∧ d.long = true)

/-- `d` is a return stack segment that passes every check of 45_iret.md R346 to R349. -/
structure GoodStackSegment (s : State) (csSel ssSel : Word) (d : Descriptor) : Prop where
  notNull : isNull ssSel = false
  fetched : Fetchable s ssSel d
  rpl : rplOf ssSel = rplOf csSel
  kind : d.kind = .data true
  dpl : d.dpl = rplOf csSel
  present : d.present = true

/-- The return instruction pointer is good for the return code segment `d`: canonical for a return to 64-bit mode,
else within the segment's limit (45_iret.md R336). -/
def GoodReturnIp (s : State) (d : Descriptor) (ip : Qword) : Prop :=
  if s.msr.lma = true ∧ d.long = true then isCanonical s.cfg ip = true else ip.toNat ≤ d.limit.toNat

/-- The one legal NULL stack segment selector: a return to 64-bit mode below CPL 3, with the RPL of the level returned
to (45_iret.md R357). -/
def LegalNullSs (d : Descriptor) (csSel ssSel : Word) : Prop :=
  isNull ssSel = true ∧ d.long = true ∧ rplOf csSel ≠ 3 ∧ rplOf ssSel = rplOf csSel

/-- SS can be loaded on a return to the code segment `d`: a good stack segment, or in IA-32e mode the one legal NULL
selector (45_iret.md R346 to R349, R357). -/
def GoodSs (s : State) (d : Descriptor) (csSel ssSel : Word) : Prop :=
  (∃ e, GoodStackSegment s csSel ssSel e) ∨ (s.msr.lma = true ∧ LegalNullSs d csSel ssSel)

/-- No cause of the first #GP(0) of IA-32e-MODE-RETURN but a NULL code segment selector holds: causes 2 to 5, of which 3
to 5 are known there with operand size 64 only (45_iret.md R357). -/
def FirstTestPasses (s : State) (sz : OpSize) (d : Descriptor) : Prop :=
  s.msr.lma = true →
    (d.long = true → isCanonical s.cfg (frameIp s sz) = true) ∧
    (sz = .w64 → isNull (frameSs s sz) = true → LegalNullSs d (frameCs s sz) (frameSs s sz))

/-- A NULL SS fails causes 3 to 5 whatever the return code segment's descriptor says: operand size 64, and a return to CPL
3 or another RPL than the return code segment selector's (45_iret.md R357). -/
def NullSsNeverLegal (s : State) (sz : OpSize) : Prop :=
  sz = .w64 ∧ isNull (frameSs s sz) = true ∧
    (rplOf (frameCs s sz) = 3 ∨ rplOf (frameSs s sz) ≠ rplOf (frameCs s sz))

/-- A return executed in virtual-8086 mode reaches its pops: IOPL = 3, CR4.VME = 0 (45_iret.md R316, R317). -/
structure V86ReturnPops (s : State) (i : Instr) (sz : OpSize) : Prop where
  size : returnSize i = some sz
  small : sz ≠ .w64
  vmx : s.plat.vmxNonRoot = false
  mode : modeOf s = .virtual8086
  vme : s.cr.vme = false
  iopl : ioplOf s.eflags = 3

/-- An IRETD has popped its first group and returns to virtual-8086 mode (45_iret.md R315, R332). -/
structure ReturnsToV86 (s : State) : Prop where
  vmx : s.plat.vmxNonRoot = false
  mode : modeOf s = .protectedMode
  nt : flagOf s.eflags .nt = false
  cpl : s.cpl = 0
  onStack : FrameOnStack s .w32 0 3
  readable : FrameReadable s .w32 0 3
  vm : flagOf (frameFlags s .w32) .vm = true

/-- The flags a same-level return loads from the image (45_iret.md R340). -/
def sameLevelLoads (sz : OpSize) (cpl iopl : BitVec 2) : Flag → Bool
  | .cf | .pf | .af | .zf | .sf | .tf | .df | .of | .nt => true
  | .rf | .ac | .idf => sz != .w16
  | .intf => cpl ≤ iopl
  | .vif | .vip => cpl == 0 && sz != .w16
  | .vm => false

/-- The flags an outer-level return loads from the image (45_iret.md R351). -/
def outerLevelLoads (sz : OpSize) (cpl iopl : BitVec 2) : Flag → Bool
  | .cf | .pf | .af | .zf | .sf | .tf | .df | .of | .nt => true
  | .rf | .ac | .idf => sz != .w16
  | .intf => cpl ≤ iopl
  | .vif | .vip => cpl == 0 && sz != .w16
  | .vm => cpl == 0 && sz == .w32

end Sys2Proof.Machine
end

