-- ==== Sys2Proof/Certificates/Slice0/Obligations.lean ====
section
/-! DEFINITION. The statements for the provers.  "The completion of X" is a statement whose conclusion is that X
answers a next state, written out in full; everything it does not change is unchanged in it. -/

open Sys2Proof Sys2Proof.Machine

/-! ### Encoding -/

/-- Decoding an encoded well-formed instruction gives it back, and leaves the bytes that follow it (30_encoding.md R91
to R96, R99). -/
def Obligations.DecodeOfEncodeIsIdentity : Prop :=
  ∀ (c : CodeSize) (i : Instr) (rest : List Byte), i.wellFormed c = true →
    decode c (encode c i ++ rest) = .ok (i, rest)

/-- What the decoder accepts exists under the code size and is one to four bytes that end in A2H or CFH: no byte of a
later instruction is taken, none is dropped (30_encoding.md R94, R104). -/
def Obligations.DecodeTakesOneInstruction : Prop :=
  ∀ (c : CodeSize) (bytes rest : List Byte) (i : Instr), decode c bytes = .ok (i, rest) →
    i.wellFormed c = true ∧ ∃ taken, bytes = taken ++ rest ∧ 1 ≤ taken.length ∧ taken.length ≤ maxInstrBytes ∧
      taken.getLast? = some (if i = .cpuid ∨ i = .lockCpuid then 0xA2 else 0xCF)

/-- Words written out from 30_encoding.md R91 to R96.  The byte values of the prefixes 66H and REX.W, in the clauses with
66 CF, 4A CF and 48 CF, and of LOCK are the spec's general knowledge, taken over by the model: log 33, PRESUMED. -/
def Obligations.WrittenOutWordsDecode : Prop :=
  decode .bits16 [0x0F, 0xA2] = .ok (.cpuid, []) ∧ decode .mode64 [0x0F, 0xA2] = .ok (.cpuid, []) ∧
  decode .bits16 [0xCF] = .ok (.iret, []) ∧ decode .bits32 [0xCF] = .ok (.iretd, []) ∧
  decode .bits32 [0x66, 0xCF] = .ok (.iret, []) ∧ decode .mode64 [0xCF] = .ok (.iretd, []) ∧
  decode .mode64 [0b01001010, 0xCF] = .ok (.iretq 0b010, []) ∧
  decode .bits16 [0xF0, 0x0F, 0xA2] = .ok (.lockCpuid, []) ∧
  decode .bits32 [0xF0, 0xCF] = .ok (.lockIretIretd, []) ∧
  decode .mode64 [0xF0, 0x48, 0xCF] = .ok (.lockIretq 0, [])

/-- A step runs the decoded instruction: it is `exec` of it at the same state, with nothing around it.  The bytes are
those at the instruction pointer through CS (20_memory.md R61, R79). -/
def Obligations.StepRunsTheDecodedInstruction : Prop :=
  ∀ (s : State) (i : Instr) (rest : List Byte),
    decode (codeSizeOf s) (fetchBytes s maxInstrBytes 0) = .ok (i, rest) → i.wellFormed (codeSizeOf s) = true →
    step s = exec i s

/-- Bytes that are no row of the table are refused, not executed and not faulted (30_encoding.md R104). -/
def Obligations.StepRefusesUndescribedBytes : Prop :=
  ∀ (s : State) (b : Byte) (rest : List Byte), fetchBytes s maxInstrBytes 0 = b :: rest →
    (decode (codeSizeOf s) (b :: rest) = .error .notDescribed → step s = .refused .notDescribed) ∧
    (b ≠ 0x0F → b ≠ 0xCF → b ≠ 0xF0 → b ≠ 0x66 → isRexW b = false → step s = .refused .notDescribed)

/-! ### CPUID: the instruction -/

/-- The completion of CPUID, every mode and privilege level: the four registers take the selected leaf's data for EAX
and ECX as they were, the signature MSR is loaded, the instruction pointer passes the two bytes, and nothing else
changes: no flag, no byte of memory (40_cpuid.md R120, R123).  That the pointer passes the two bytes is the spec's own
decision D9, and that it may do so up to 2 to the power 64 in 64-bit mode, past the canonical range too, is the model's
choice: log 9, DESIGN CHOICE, unsafe there. -/
def Obligations.CpuidCompletesWithSelectedLeaf : Prop :=
  ∀ s : State, s.cfg.cpuidSupported = true → s.plat.vmxNonRoot = false → s.msr.miscEnable.getLsbD 22 = false →
    (selectLeaf s.cfg (s.gpr.rax.setWidth 32) = 2 → leaf02Repeats s.cfg = false) →
    (if modeOf s = .bits64 then s.rip.toNat + 2 < 2 ^ 64 else s.rip.toNat + 2 ≤ s.cs.hidden.limit.toNat) →
    exec .cpuid s = .next
      { s with
        gpr :=
          { s.gpr with
            rax := writeReg32 s.cfg.intel64 s.gpr.rax
              (cpuidAnswer s.cfg (dynOf s) (s.gpr.rax.setWidth 32) (s.gpr.rcx.setWidth 32)).eax
            rbx := writeReg32 s.cfg.intel64 s.gpr.rbx
              (cpuidAnswer s.cfg (dynOf s) (s.gpr.rax.setWidth 32) (s.gpr.rcx.setWidth 32)).ebx
            rcx := writeReg32 s.cfg.intel64 s.gpr.rcx
              (cpuidAnswer s.cfg (dynOf s) (s.gpr.rax.setWidth 32) (s.gpr.rcx.setWidth 32)).ecx
            rdx := writeReg32 s.cfg.intel64 s.gpr.rdx
              (cpuidAnswer s.cfg (dynOf s) (s.gpr.rax.setWidth 32) (s.gpr.rcx.setWidth 32)).edx }
        msr := { s.msr with biosSignId := updatedSignId s }
        rip := s.rip + 2
        freeCount := s.freeCount + 1 }

/-- All four registers are written, whatever the leaf: the whole 64-bit register on an Intel 64 processor, in all
modes, else the 32-bit register and nothing else (40_cpuid.md R128). -/
def Obligations.CpuidWritesAllFourRegisters : Prop :=
  ∀ s t : State, exec .cpuid s = .next t →
    let q := cpuidAnswer s.cfg (dynOf s) (s.gpr.rax.setWidth 32) (s.gpr.rcx.setWidth 32)
    (s.cfg.intel64 = true →
      t.gpr.rax = q.eax.setWidth 64 ∧ t.gpr.rbx = q.ebx.setWidth 64 ∧
      t.gpr.rcx = q.ecx.setWidth 64 ∧ t.gpr.rdx = q.edx.setWidth 64) ∧
    (s.cfg.intel64 = false →
      (t.gpr.rax.setWidth 32 = q.eax ∧ t.gpr.rax >>> 32 = s.gpr.rax >>> 32) ∧
      (t.gpr.rbx.setWidth 32 = q.ebx ∧ t.gpr.rbx >>> 32 = s.gpr.rbx >>> 32) ∧
      (t.gpr.rcx.setWidth 32 = q.ecx ∧ t.gpr.rcx >>> 32 = s.gpr.rcx >>> 32) ∧
      (t.gpr.rdx.setWidth 32 = q.edx ∧ t.gpr.rdx >>> 32 = s.gpr.rdx >>> 32))

/-- The update signature: the upper half of IA32_BIOS_SIGN_ID on a processor with the facility, whatever EAX was; the
MSR is not written on another (40_cpuid.md R122). -/
def Obligations.CpuidLoadsUpdateSignature : Prop :=
  ∀ s t : State, exec .cpuid s = .next t →
    (s.cfg.microcodeFacility = true → t.msr.biosSignId.extractLsb' 32 32 = s.cfg.microcodeSignature) ∧
    (s.cfg.microcodeFacility = false → t.msr.biosSignId = s.msr.biosSignId)

/-- #UD has these two causes and CPUID raises nothing else: the LOCK prefix, and a part without the instruction.  A
fault carries no state: no register, flag or MSR is written (40_cpuid.md R121).  That this holds in VMX non-root operation
too, of which the sources say nothing, is the model's choice: log 16. -/
def Obligations.CpuidRaisesOnlyInvalidOpcode : Prop :=
  ∀ s : State, exec .lockCpuid s = .fault .ud ∧
    (s.cfg.cpuidSupported = false → exec .cpuid s = .fault .ud) ∧
    (∀ f, exec .cpuid s = .fault f → f = .ud ∧ s.cfg.cpuidSupported = false)

/-- What CPUID leaves unchanged: every register but the four, the instruction pointer and IA32_BIOS_SIGN_ID; every
flag; every byte of memory (40_cpuid.md R120, "Flags Affected: None"). -/
def Obligations.CpuidFrame : Prop :=
  ∀ s t : State, exec .cpuid s = .next t →
    (∀ a, t.mem.read a = s.mem.read a) ∧ t.eflags = s.eflags ∧ t.cpl = s.cpl ∧
    t.gpr = { s.gpr with rax := t.gpr.rax, rbx := t.gpr.rbx, rcx := t.gpr.rcx, rdx := t.gpr.rdx } ∧
    t.cs = s.cs ∧ t.ss = s.ss ∧ t.ds = s.ds ∧ t.es = s.es ∧ t.fs = s.fs ∧ t.gs = s.gs ∧ t.cr = s.cr ∧
    t.msr = { s.msr with biosSignId := t.msr.biosSignId } ∧ t.tables = s.tables ∧ t.plat = s.plat ∧ t.cfg = s.cfg

/-- CPUID's registers depend on EAX, ECX, the part and the dynamic inputs alone: two executions that agree on these
answer alike, whatever else differs (40_cpuid.md R123, R130; 10_state.md R21). -/
def Obligations.CpuidDependsOnlyOnItsInputs : Prop :=
  ∀ s s' t t' : State, s.cfg = s'.cfg → dynOf s = dynOf s' →
    s.gpr.rax.setWidth 32 = s'.gpr.rax.setWidth 32 → s.gpr.rcx.setWidth 32 = s'.gpr.rcx.setWidth 32 →
    exec .cpuid s = .next t → exec .cpuid s' = .next t' →
    t.gpr.rax.setWidth 32 = t'.gpr.rax.setWidth 32 ∧ t.gpr.rbx.setWidth 32 = t'.gpr.rbx.setWidth 32 ∧
    t.gpr.rcx.setWidth 32 = t'.gpr.rcx.setWidth 32 ∧ t.gpr.rdx.setWidth 32 = t'.gpr.rdx.setWidth 32

/-- The three inputs the spec refuses, in the order the model tests them (40_cpuid.md R126, R132;
41_cpuid_basic_leaves.md R171): the spec's own decisions D5, D6, D14 (log 13, log 14, log 16). -/
def Obligations.CpuidRefusalsOfTheSpec : Prop :=
  ∀ s : State, s.cfg.cpuidSupported = true →
    (s.plat.vmxNonRoot = true → exec .cpuid s = .refused .vmxNonRoot) ∧
    (s.plat.vmxNonRoot = false → s.msr.miscEnable.getLsbD 22 = true → exec .cpuid s = .refused .bootNt4) ∧
    (s.plat.vmxNonRoot = false → s.msr.miscEnable.getLsbD 22 = false → leaf02Repeats s.cfg = true →
      selectLeaf s.cfg (s.gpr.rax.setWidth 32) = 2 → exec .cpuid s = .refused .leaf02Repeat)

/-! ### CPUID: leaves -/

/-- Leaf selection: an input in one of the two ranges answers its own data, any other the highest basic leaf's with
the input ECX honoured; all comparisons unsigned (40_cpuid.md R124). -/
def Obligations.LeafSelectionRule : Prop :=
  ∀ (cfg : CpuidConfig) (dyn : Dyn) (a c : Dword),
    (a.toNat ≤ cfg.maxBasic.toNat → cpuidAnswer cfg dyn a c = leafData cfg dyn a c) ∧
    (cfg.extImplemented = true → 0x80000000 ≤ a.toNat → a.toNat ≤ cfg.maxExt.toNat →
      cpuidAnswer cfg dyn a c = leafData cfg dyn a c) ∧
    (cfg.maxBasic.toNat < a.toNat → (cfg.extImplemented = false ∨ a.toNat < 0x80000000 ∨ cfg.maxExt.toNat < a.toNat) →
      cpuidAnswer cfg dyn a c = leafData cfg dyn cfg.maxBasic c)

/-- The page's examples with the Intel Core i7 (highest basic leaf 0BH, highest extended 80000008H): 05H, 0AH, 0BH and
80000008H answer their own leaf, 0CH and 8000000AH that of 0BH, and 07H, unsupported there, four zeros (40_cpuid.md
R131).  That "unsupported" is a leaf without a recorded row is the model's reading: log 10. -/
def Obligations.CoreI7LeafSelectionExamples : Prop :=
  ∀ (cfg : CpuidConfig) (dyn : Dyn) (c : Dword), cfg.maxBasic = 0x0B → cfg.extImplemented = true →
    cfg.maxExt = 0x80000008 → (∀ r ∈ cfg.rows, r.leaf ≠ 0x07) →
    cpuidAnswer cfg dyn 0x05 c = leafData cfg dyn 0x05 c ∧ cpuidAnswer cfg dyn 0x0A c = leafData cfg dyn 0x0A c ∧
    cpuidAnswer cfg dyn 0x0B c = leafData cfg dyn 0x0B c ∧ cpuidAnswer cfg dyn 0x0C c = cpuidAnswer cfg dyn 0x0B c ∧
    cpuidAnswer cfg dyn 0x80000008 c = leafData cfg dyn 0x80000008 c ∧
    cpuidAnswer cfg dyn 0x8000000A c = cpuidAnswer cfg dyn 0x0B c ∧ cpuidAnswer cfg dyn 0x07 c = Quad.zero

/-- A leaf in range that the part does not support, one without a recorded row, answers four zeros, except the two
that report the maxima (40_cpuid.md R125 item 2; "no recorded row" is the model's reading of "not supported", log 10). -/
def Obligations.UnsupportedLeafAnswersZeros : Prop :=
  ∀ (cfg : CpuidConfig) (dyn : Dyn) (a c : Dword), a ≠ 0 → a ≠ 0x80000000 → (∀ r ∈ cfg.rows, r.leaf ≠ a) →
    leafData cfg dyn a c = Quad.zero

/-- Leaves 08H, 0CH, 0EH and 80000005H answer four zeros when they are in range, and leaf 0BH's data stands for 0CH on
a part whose highest basic leaf is 0BH (41_cpuid_basic_leaves.md R194, R208, R218; 43_cpuid_extended_leaves.md R264). -/
def Obligations.ReservedLeavesAnswerZeros : Prop :=
  ∀ (cfg : CpuidConfig) (dyn : Dyn) (c : Dword),
    (8 ≤ cfg.maxBasic.toNat → cpuidAnswer cfg dyn 0x08 c = Quad.zero) ∧
    (0x0C ≤ cfg.maxBasic.toNat → cpuidAnswer cfg dyn 0x0C c = Quad.zero) ∧
    (cfg.maxBasic = 0x0B → cpuidAnswer cfg dyn 0x0C c = leafData cfg dyn 0x0B c) ∧
    (0x0E ≤ cfg.maxBasic.toNat → cpuidAnswer cfg dyn 0x0E c = Quad.zero) ∧
    (cfg.extImplemented = true → 0x80000005 ≤ cfg.maxExt.toNat → cpuidAnswer cfg dyn 0x80000005 c = Quad.zero)

/-- EAX = 0: the maximum basic leaf, and the vendor string, character k in byte k mod 4 of register k div 4 in the order
EBX, EDX, ECX; for an Intel processor the three constants of the page (41_cpuid_basic_leaves.md R151, R152). -/
def Obligations.VendorStringPacking : Prop :=
  ∀ (cfg : CpuidConfig) (dyn : Dyn) (c : Dword),
    (cpuidAnswer cfg dyn 0 c).eax = cfg.maxBasic ∧
    (∀ (k : Nat) (h : k < 12),
      (match k / 4 with
        | 0 => (cpuidAnswer cfg dyn 0 c).ebx
        | 1 => (cpuidAnswer cfg dyn 0 c).edx
        | _ => (cpuidAnswer cfg dyn 0 c).ecx).extractLsb' (8 * (k % 4)) 8 = cfg.vendor[k]) ∧
    (cfg.vendor = genuineIntel →
      (cpuidAnswer cfg dyn 0 c).ebx = 0x756E6547 ∧ (cpuidAnswer cfg dyn 0 c).edx = 0x49656E69 ∧
      (cpuidAnswer cfg dyn 0 c).ecx = 0x6C65746E)

/-- Leaf 01H, where it is recorded: EBX[31:24] is the initial APIC ID, ECX bit 31 is 0, ECX bit 27 is CR4.OSXSAVE, and
no other bit of the answer depends on machine state (41_cpuid_basic_leaves.md R161, R163, R164). -/
def Obligations.VersionLeafDynamicBits : Prop :=
  ∀ (cfg : CpuidConfig) (dyn dyn' : Dyn) (c : Dword), 1 ≤ cfg.maxBasic.toNat → (rowOf cfg 1 0).isSome = true →
    (cpuidAnswer cfg dyn 1 c).ebx.extractLsb' 24 8 = dyn.initialApicId ∧
    (cpuidAnswer cfg dyn 1 c).ecx.getLsbD 31 = false ∧
    (cpuidAnswer cfg dyn 1 c).ecx.getLsbD 27 = dyn.osxsave ∧
    (cpuidAnswer cfg dyn 1 c).eax = (cpuidAnswer cfg dyn' 1 c).eax ∧
    (cpuidAnswer cfg dyn 1 c).edx = (cpuidAnswer cfg dyn' 1 c).edx ∧
    (∀ i, i < 24 → (cpuidAnswer cfg dyn 1 c).ebx.getLsbD i = (cpuidAnswer cfg dyn' 1 c).ebx.getLsbD i) ∧
    (∀ i, i ≠ 27 → (cpuidAnswer cfg dyn 1 c).ecx.getLsbD i = (cpuidAnswer cfg dyn' 1 c).ecx.getLsbD i)

/-- Leaf 04H: there is a first invalid index, from which on all four registers are 0; below it the cache type is not 0,
and EAX[31:26], the topology data, is the same as at index 0 (41_cpuid_basic_leaves.md R186, R187). -/
def Obligations.CacheLeafIndexes : Prop :=
  ∀ (cfg : CpuidConfig) (dyn : Dyn) (c : Dword), 4 ≤ cfg.maxBasic.toNat →
    (leaf04Count cfg ≤ c.toNat → cpuidAnswer cfg dyn 4 c = Quad.zero) ∧
    (c.toNat < leaf04Count cfg → (cpuidAnswer cfg dyn 4 c).eax.extractLsb' 0 5 ≠ 0 ∧
      (cpuidAnswer cfg dyn 4 c).eax.extractLsb' 26 6 = (cpuidAnswer cfg dyn 4 0).eax.extractLsb' 26 6)

/-- Leaf 0BH, where it is recorded: ECX[7:0] echoes the input and EDX is the x2APIC ID at every input; from the first
invalid level on EAX, EBX and the level type are 0, below it the level type is not 0 (41_cpuid_basic_leaves.md R203,
R205). -/
def Obligations.TopologyLeafLevels : Prop :=
  ∀ (cfg : CpuidConfig) (dyn : Dyn) (c : Dword), 0x0B ≤ cfg.maxBasic.toNat → (rowOf cfg 0x0B 0).isSome = true →
    (cpuidAnswer cfg dyn 0x0B c).ecx.extractLsb' 0 8 = c.setWidth 8 ∧
    (cpuidAnswer cfg dyn 0x0B c).edx = dyn.x2apicId ∧
    (leaf0BLevels cfg ≤ c.toNat → (cpuidAnswer cfg dyn 0x0B c).eax = 0 ∧ (cpuidAnswer cfg dyn 0x0B c).ebx = 0 ∧
      (cpuidAnswer cfg dyn 0x0B c).ecx.extractLsb' 8 8 = 0) ∧
    (c.toNat < leaf0BLevels cfg → (cpuidAnswer cfg dyn 0x0B c).ecx.extractLsb' 8 8 ≠ 0)

/-- Leaf 0DH: a sub-leaf above 1 whose bit is in neither of the two reported vectors answers four zeros
(41_cpuid_basic_leaves.md R215). -/
def Obligations.XsaveLeafInvalidSubleafAnswersZeros : Prop :=
  ∀ (cfg : CpuidConfig) (dyn : Dyn) (c : Dword), 0x0D ≤ cfg.maxBasic.toNat → 2 ≤ c.toNat →
    ((cpuidAnswer cfg dyn 0x0D 0).edx ++ (cpuidAnswer cfg dyn 0x0D 0).eax : BitVec 64).getLsbD c.toNat = false →
    ((cpuidAnswer cfg dyn 0x0D 1).edx ++ (cpuidAnswer cfg dyn 0x0D 1).ecx : BitVec 64).getLsbD c.toNat = false →
    cpuidAnswer cfg dyn 0x0D c = Quad.zero

/-- Leaf 0DH sub-leaf 0: EBX is at most ECX, and equal to it when every supported bit of XCR0 is set
(41_cpuid_basic_leaves.md R209; the size itself is a free value, log 12). -/
def Obligations.XsaveAreaSizeIsBounded : Prop :=
  ∀ (cfg : CpuidConfig) (dyn : Dyn), 0x0D ≤ cfg.maxBasic.toNat →
    (cpuidAnswer cfg dyn 0x0D 0).ebx.toNat ≤ (cpuidAnswer cfg dyn 0x0D 0).ecx.toNat ∧
    ((∀ i, ((cpuidAnswer cfg dyn 0x0D 0).edx ++ (cpuidAnswer cfg dyn 0x0D 0).eax : BitVec 64).getLsbD i = true →
        dyn.xcr0.getLsbD i = true) →
      (cpuidAnswer cfg dyn 0x0D 0).ebx = (cpuidAnswer cfg dyn 0x0D 0).ecx)

/-- Every field that the field tables mark "Reserved = 0" reads 0, on every part and for every input of its leaf
(41_cpuid_basic_leaves.md R150; 43_cpuid_extended_leaves.md R257, R267, R268). -/
def Obligations.ReservedZeroFieldsReadZero : Prop :=
  ∀ (cfg : CpuidConfig) (dyn : Dyn) (c : Dword) (f : FieldRow), f ∈ leafFields → f.kind = .reservedZero →
    f.read (leafData cfg dyn f.leaf c) = 0

/-- The input ECX matters only for leaves 04H, 07H, 0BH, 0DH, 0FH and 10H (40_cpuid.md R125 item 3). -/
def Obligations.SubleafMattersInSixLeaves : Prop :=
  ∀ (cfg : CpuidConfig) (dyn : Dyn) (a c c' : Dword), a ≠ 0x04 → a ≠ 0x07 → a ≠ 0x0B → a ≠ 0x0D → a ≠ 0x0F →
    a ≠ 0x10 → leafData cfg dyn a c = leafData cfg dyn a c'

/-- Table 3-22 gives 105 byte values a meaning; the other 151 have none (42_cpuid_leaf2_descriptors.md R230, R234). -/
def Obligations.DescriptorBytesWithoutMeaning : Prop :=
  ((List.range 256).filter fun v => (descriptorMeaning (BitVec.ofNat 8 v)).isSome).length = 105 ∧
  ((List.range 256).filter fun v => (descriptorMeaning (BitVec.ofNat 8 v)).isNone).length = 151

/-! ### The forms that stop -/

/-- IRET, IRETD and IRETQ with the LOCK prefix: #UD in every state, before anything else; a fault carries no state
(45_iret.md R301).  In real-address mode this rests on log 37, PRESUMED, and in VMX non-root operation on log 16, the
model's choice. -/
def Obligations.LockedInterruptReturnsRaiseUd : Prop :=
  ∀ (s : State) (rxb : BitVec 3), exec .lockIretIretd s = .fault .ud ∧ exec (.lockIretq rxb) s = .fault .ud

/-! ### Interrupt return: real-address mode -/

/-- The completion of IRET in real-address mode: EIP and CS take 16-bit items, the flags image replaces bits 15:0, SP
passes 6 bytes, and nothing else changes; no page fault and no alignment check is a condition (45_iret.md R311, R312,
R313; the hidden part of CS is log 27, the reserved flag bits log 7). -/
def Obligations.RealModeIretCompletes : Prop :=
  ∀ s : State, modeOf s = .realAddress → s.plat.vmxNonRoot = false → withinStackLimits s 0 6 = true →
    frameTouchesApic s .w16 0 3 = false → (frameIp s .w16).toNat ≤ s.cs.hidden.limit.toNat →
    exec .iret s = .next
      { s with
        rip := frameIp s .w16
        cs := { sel := frameCs s .w16, hidden := { s.cs.hidden with base := (frameCs s .w16).setWidth 32 <<< 4 } }
        eflags := (s.eflags &&& 0x003F0000) ||| (frameFlags s .w16 &&& 0x00007FD5)
        gpr := { s.gpr with rsp := rspAfterPop s 6 } }

/-- The completion of IRETD in real-address mode on a part with CPUID: the printed formula, (image AND 257FD5H) OR
(EFLAGS AND 1A0000H); the popped EIP has bits 31:16 clear (45_iret.md R311, R312, R313; log 27). -/
def Obligations.RealModeIretdCompletes : Prop :=
  ∀ s : State, modeOf s = .realAddress → s.plat.vmxNonRoot = false → s.cfg.cpuidSupported = true →
    withinStackLimits s 0 12 = true → frameTouchesApic s .w32 0 3 = false →
    (frameIp s .w32).toNat ≤ s.cs.hidden.limit.toNat → (frameIp s .w32).toNat < 2 ^ 16 →
    exec .iretd s = .next
      { s with
        rip := frameIp s .w32
        cs := { sel := frameCs s .w32, hidden := { s.cs.hidden with base := (frameCs s .w32).setWidth 32 <<< 4 } }
        eflags := (frameFlags s .w32 &&& 0x00257FD5) ||| (s.eflags &&& 0x001A0000)
        gpr := { s.gpr with rsp := rspAfterPop s 12 } }

/-- The two exceptions of a return in real-address mode, neither with an error code, and no other: #SS when the top
bytes are not within the stack limits, then #GP when the instruction pointer is not within the code segment's limit or,
with operand size 32, has a bit above 15 set (60_exceptions.md R381; 45_iret.md R311, R312).  The two limit comparisons
are the model's: log 17, DESIGN CHOICE. -/
def Obligations.RealModeReturnExceptions : Prop :=
  ∀ (s : State) (i : Instr) (sz : OpSize), modeOf s = .realAddress → s.plat.vmxNonRoot = false →
    returnSize i = some sz → sz ≠ .w64 →
    (withinStackLimits s 0 (3 * sz.bytes) = false → exec i s = .fault (.ss .none)) ∧
    (withinStackLimits s 0 (3 * sz.bytes) = true → touchesApic s (stackLinear s 0) sz.bytes = false →
      (s.cs.hidden.limit.toNat < (frameIp s sz).toNat ∨ 2 ^ 16 ≤ (frameIp s sz).toNat) →
      exec i s = .fault (.gp .none)) ∧
    (∀ f, exec i s = .fault f → f = .ss .none ∨ f = .gp .none)

/-! ### Interrupt return: virtual-8086 mode -/

/-- IOPL below 3 in virtual-8086 mode, CR4.VME = 0: #GP(0), whatever is on the stack (45_iret.md R317). -/
def Obligations.Virtual8086ReturnNeedsIopl3 : Prop :=
  ∀ (s : State) (i : Instr) (sz : OpSize), modeOf s = .virtual8086 → s.plat.vmxNonRoot = false → s.cr.vme = false →
    returnSize i = some sz → sz ≠ .w64 → ioplOf s.eflags ≠ 3 → exec i s = .fault (.gp .zero)

/-- The completion of IRET and IRETD in virtual-8086 mode with IOPL = 3, CR4.VME = 0 (45_iret.md R316; the hidden part
of CS is log 27). -/
def Obligations.Virtual8086ReturnCompletes : Prop :=
  ∀ (s : State) (i : Instr) (sz : OpSize), modeOf s = .virtual8086 → s.plat.vmxNonRoot = false → s.cr.vme = false →
    returnSize i = some sz → sz ≠ .w64 → ioplOf s.eflags = 3 → FrameOnStack s sz 0 3 → FrameReadable s sz 0 3 →
    (frameIp s sz).toNat ≤ s.cs.hidden.limit.toNat →
    exec i s = .next
      { s with
        rip := frameIp s sz
        cs := { sel := frameCs s sz, hidden := { s.cs.hidden with base := (frameCs s sz).setWidth 32 <<< 4 } }
        eflags := flagsLoaded s (if sz = .w16 then 0x00004FD5 else 0x00254FD5) (frameFlags s sz)
        gpr := { s.gpr with rsp := rspAfterPop s (3 * sz.bytes) } }

/-! ### Interrupt return: protected and IA-32e mode -/

/-- The checks of a task return, then the refusal past them (45_iret.md R320, decision D13, log 31). -/
def Obligations.TaskReturnChecks : Prop :=
  ∀ (s : State) (i : Instr) (sz : OpSize), modeOf s = .protectedMode → s.plat.vmxNonRoot = false →
    returnSize i = some sz → sz ≠ .w64 → flagOf s.eflags .nt = true →
    ((s.tables.tssLink.getLsbD 2 = true ∨ s.tables.gdt.length ≤ (s.tables.tssLink >>> 3).toNat) →
      exec i s = .fault (.ts s.tables.tssLink)) ∧
    (∀ d, s.tables.tssLink.getLsbD 2 = false → Fetchable s s.tables.tssLink d →
      (d.kind ≠ .tss true → exec i s = .fault (.ts s.tables.tssLink)) ∧
      (d.kind = .tss true → d.present = false → exec i s = .fault (.np s.tables.tssLink)) ∧
      (d.kind = .tss true → d.present = true → exec i s = .refused .taskSwitch))

/-- NT = 1 in IA-32e mode: #GP(0) before anything is popped (45_iret.md R356; 60_exceptions.md R383). -/
def Obligations.NestedTaskFaultsInIa32e : Prop :=
  ∀ (s : State) (i : Instr) (sz : OpSize),
    ((modeOf s = .compatibility ∧ sz ≠ .w64) ∨ modeOf s = .bits64) → s.plat.vmxNonRoot = false →
    returnSize i = some sz → flagOf s.eflags .nt = true → exec i s = .fault (.gp .zero)

/-- The stack tests, where reading the bytes faults in no other way (log 23): #SS(0) when the bytes to pop are not within
the stack limits, in 64-bit mode not canonical.  The first group in protected and IA-32e mode; the frame of a return in
virtual-8086 mode; the two further items of an outer-level return of size 16 or 32; the six further items of a return to
virtual-8086 mode (20_memory.md R67; 45_iret.md R315, R316, R333, R345, R356, R360; the limit test is log 17, the
canonical test log 19). -/
def Obligations.FrameOutsideStackFaults : Prop :=
  ∀ (s : State) (i : Instr) (sz : OpSize),
    (returnSize i = some sz → s.plat.vmxNonRoot = false →
      (((modeOf s = .protectedMode ∨ modeOf s = .compatibility) ∧ sz ≠ .w64) ∨ modeOf s = .bits64) →
      flagOf s.eflags .nt = false → ¬FrameOnStack s sz 0 (ia32eItems sz) → frameFaults s sz 0 (ia32eItems sz) = [] →
      exec i s = .fault (.ss .zero)) ∧
    (V86ReturnPops s i sz → ¬FrameOnStack s sz 0 3 → frameFaults s sz 0 3 = [] → exec i s = .fault (.ss .zero)) ∧
    (∀ d, PoppedForChecks s i sz → sz ≠ .w64 → GoodCodeSegment s (frameCs s sz) d → s.cpl < rplOf (frameCs s sz) →
      FirstTestPasses s sz d → ¬FrameOnStack s sz 3 2 → frameFaults s sz 3 2 = [] → exec i s = .fault (.ss .zero)) ∧
    (ReturnsToV86 s → ¬FrameOnStack s .w32 3 6 → frameFaults s .w32 3 6 = [] → exec .iretd s = .fault (.ss .zero))

/-- A NULL return code segment selector: #GP(0) before any privilege comparison (45_iret.md R322; R357
cause 1). -/
def Obligations.NullCodeSelectorFaults : Prop :=
  ∀ (s : State) (i : Instr) (sz : OpSize), PoppedForChecks s i sz → isNull (frameCs s sz) = true →
    exec i s = .fault (.gp .zero)

/-- A return code segment selector beyond its descriptor table's limit: #GP(selector).  Only where an IRETQ's NULL SS is
illegal too, whatever the descriptor, may #GP(0) stand in its place, since the page does not rank the two (45_iret.md
R323, R357, log 23). -/
def Obligations.CodeSelectorBeyondTableFaults : Prop :=
  ∀ (s : State) (i : Instr) (sz : OpSize), PoppedForChecks s i sz → isNull (frameCs s sz) = false →
    tableEntry s (frameCs s sz) = none →
    exec i s = .fault (.gp (.selector (frameCs s sz))) ∨
      (NullSsNeverLegal s sz ∧ exec i s = .fault (.gp .zero))

/-- The checks on the return code segment in protected, compatibility and 64-bit mode, in the order of the rules: not a
code segment; in IA-32e mode D-bit and L-bit both set; RPL below CPL; conforming with DPL above RPL; non-conforming with
DPL not RPL (present, since the page does not rank this test and the next); not present.  In IA-32e mode a descriptor
whose memory address is non-canonical is #GP(selector) too, or #GP(0) beside a NULL SS that is illegal whatever the
descriptor says.  In IA-32e mode no cause of the first #GP(0) holds beside
them, since the page does not rank those (45_iret.md R324 to R328, R330, R357, R358; the place of the D-bit and L-bit
test is R358's reading, log 23; descriptors and their addresses are log 18, the canonical test log 19). -/
def Obligations.CodeSegmentChecksInOrder : Prop :=
  ∀ (s : State) (i : Instr) (sz : OpSize), PoppedForChecks s i sz → isNull (frameCs s sz) = false →
    (∀ e, tableEntry s (frameCs s sz) = some e → s.msr.lma = true → isCanonical s.cfg e.address = false →
      misaligned s e.address 8 = false → pageFaults s e.address 8 = false →
      exec i s = .fault (.gp (.selector (frameCs s sz))) ∨
        (NullSsNeverLegal s sz ∧ exec i s = .fault (.gp .zero))) ∧
    ∀ d, Fetchable s (frameCs s sz) d → FirstTestPasses s sz d →
      ((∀ conforming, d.kind ≠ .code conforming) → exec i s = .fault (.gp (.selector (frameCs s sz)))) ∧
      (∀ conforming, d.kind = .code conforming →
        (s.msr.lma = true → d.db = true → d.long = true → exec i s = .fault (.gp (.selector (frameCs s sz)))) ∧
        (rplOf (frameCs s sz) < s.cpl → exec i s = .fault (.gp (.selector (frameCs s sz)))) ∧
        (s.cpl ≤ rplOf (frameCs s sz) →
          (conforming = true → rplOf (frameCs s sz) < d.dpl → exec i s = .fault (.gp (.selector (frameCs s sz)))) ∧
          (conforming = false → d.dpl ≠ rplOf (frameCs s sz) → d.present = true →
            exec i s = .fault (.gp (.selector (frameCs s sz)))) ∧
          ((conforming = true ∧ d.dpl ≤ rplOf (frameCs s sz)) ∨
              (conforming = false ∧ d.dpl = rplOf (frameCs s sz)) →
            (s.msr.lma = true → ¬(d.db = true ∧ d.long = true)) → d.present = false →
            exec i s = .fault (.np (frameCs s sz)))))

/-- The checks on the return stack segment of a return to an outer level, and of an IRETQ to the same level: NULL,
#GP(0), in protected mode always, in IA-32e mode on a return to compatibility mode, to 64-bit mode at CPL 3, or with an
RPL that is not the new CPL (R357 causes 3 to 5); beyond its table, #GP(selector); RPL, kind or DPL wrong, #GP(selector);
not present, #SS(selector).  The return instruction pointer is good where the page does not rank its test against these
(45_iret.md R346 to R349, R357; that an IRETQ to the same level makes R347's to R349's checks is log 28, descriptors
are log 18). -/
def Obligations.StackSegmentChecksInOrder : Prop :=
  ∀ (s : State) (i : Instr) (sz : OpSize) (d : Descriptor), PoppedForChecks s i sz →
    GoodCodeSegment s (frameCs s sz) d →
    ((s.cpl < rplOf (frameCs s sz) ∧ (sz ≠ .w64 → FrameOnStack s sz 3 2 ∧ FrameReadable s sz 3 2)) ∨
      (rplOf (frameCs s sz) = s.cpl ∧ sz = .w64 ∧ GoodReturnIp s d (frameIp s sz))) →
    (s.msr.lma = true → d.long = true → isCanonical s.cfg (frameIp s sz) = true) →
    (isNull (frameSs s sz) = true →
      (modeOf s = .protectedMode ∨ d.long = false ∨ rplOf (frameCs s sz) = 3 ∨
        rplOf (frameSs s sz) ≠ rplOf (frameCs s sz)) →
      exec i s = .fault (.gp .zero)) ∧
    (isNull (frameSs s sz) = false → tableEntry s (frameSs s sz) = none →
      exec i s = .fault (.gp (.selector (frameSs s sz)))) ∧
    (∀ e, isNull (frameSs s sz) = false → Fetchable s (frameSs s sz) e →
      ((rplOf (frameSs s sz) ≠ rplOf (frameCs s sz) ∨ e.kind ≠ .data true ∨ e.dpl ≠ rplOf (frameCs s sz)) →
        exec i s = .fault (.gp (.selector (frameSs s sz)))) ∧
      (rplOf (frameSs s sz) = rplOf (frameCs s sz) → e.kind = .data true → e.dpl = rplOf (frameCs s sz) →
        e.present = false → exec i s = .fault (.ss (.selector (frameSs s sz)))))

/-- A bad return instruction pointer is #GP(0): outside the limit of the segment returned to, or not canonical for a
return to 64-bit mode.  On a return to the same level in protected and compatibility mode, of IRETQ, and of IRET and
IRETD from 64-bit mode to 64-bit mode (R357 cause 2; the spec refuses that return otherwise, log 29); on a return to an
outer level from every mode; on a return in and to virtual-8086 mode, with EIP masked to 16 bits in the last (45_iret.md
R316, R333, R336, R350, R357; the comparison is log 17 and log 38, the canonical test log 19, the limit in virtual-8086
mode log 27). -/
def Obligations.BadReturnPointerFaults : Prop :=
  ∀ (s : State) (i : Instr) (sz : OpSize),
    (∀ d, PoppedForChecks s i sz → GoodCodeSegment s (frameCs s sz) d → ¬GoodReturnIp s d (frameIp s sz) →
      (rplOf (frameCs s sz) = s.cpl → (modeOf s ≠ .bits64 ∨ (s.msr.lma = true ∧ d.long = true) ∨
        (sz = .w64 ∧ GoodSs s d (frameCs s sz) (frameSs s sz))) → exec i s = .fault (.gp .zero)) ∧
      (s.cpl < rplOf (frameCs s sz) → (sz ≠ .w64 → FrameOnStack s sz 3 2 ∧ FrameReadable s sz 3 2) →
        GoodSs s d (frameCs s sz) (frameSs s sz) → exec i s = .fault (.gp .zero))) ∧
    (V86ReturnPops s i sz → FrameOnStack s sz 0 3 → FrameReadable s sz 0 3 →
      s.cs.hidden.limit.toNat < (frameIp s sz).toNat → exec i s = .fault (.gp .zero)) ∧
    (ReturnsToV86 s → FrameOnStack s .w32 3 6 → FrameReadable s .w32 3 6 →
      s.plat.v86SegLimit.toNat < (frameIp s .w32 &&& 0xFFFF).toNat → exec .iretd s = .fault (.gp .zero))

/-- The completion of IRET and IRETD to the same privilege level, in protected and compatibility mode: three items are
popped, CS takes selector and descriptor, SS and CPL stay (45_iret.md R336, R337, R340, R343). -/
def Obligations.SameLevelReturnCompletes : Prop :=
  ∀ (s : State) (i : Instr) (sz : OpSize) (d : Descriptor), PoppedForChecks s i sz → modeOf s ≠ .bits64 →
    GoodCodeSegment s (frameCs s sz) d → rplOf (frameCs s sz) = s.cpl → GoodReturnIp s d (frameIp s sz) →
    exec i s = .next
      { s with
        rip := frameIp s sz
        cs := { sel := frameCs s sz, hidden := d }
        eflags := flagsLoaded s (sameLevelMask sz s.cpl (ioplOf s.eflags)) (frameFlags s sz)
        gpr := { s.gpr with rsp := rspAfterPop s (3 * sz.bytes) } }

/-- A return of operand size 16 or 32 to the same level executed in 64-bit mode is refused: the spec's decision D10
(45_iret.md R343, log 29). -/
def Obligations.SameLevelIn64BitModeIsRefused : Prop :=
  ∀ (s : State) (i : Instr) (sz : OpSize) (d : Descriptor), PoppedForChecks s i sz → modeOf s = .bits64 → sz ≠ .w64 →
    GoodCodeSegment s (frameCs s sz) d → rplOf (frameCs s sz) = s.cpl → GoodReturnIp s d (frameIp s sz) →
    exec i s = .refused .sameLevelIn64Bit

/-- The completion of IRETQ to the same privilege level: SS and RSP are loaded from the frame too, SS with its checked
descriptor, or with any hidden part under the one legal NULL selector (45_iret.md R343, R357, decision D10; the checks
on a SS that is not NULL are log 28, the free hidden part log 26). -/
def Obligations.IretqSameLevelCompletes : Prop :=
  ∀ (s : State) (rxb : BitVec 3) (d : Descriptor), PoppedForChecks s (.iretq rxb) .w64 →
    GoodCodeSegment s (frameCs s .w64) d → rplOf (frameCs s .w64) = s.cpl → GoodReturnIp s d (frameIp s .w64) →
    ((∃ e, GoodStackSegment s (frameCs s .w64) (frameSs s .w64) e) ∨
      LegalNullSs d (frameCs s .w64) (frameSs s .w64)) →
    exec (.iretq rxb) s = .next
      { s with
        rip := frameIp s .w64
        cs := { sel := frameCs s .w64, hidden := d }
        eflags := flagsLoaded s (sameLevelMask .w64 s.cpl (ioplOf s.eflags)) (frameFlags s .w64)
        gpr := { s.gpr with rsp := frameSp s .w64 }
        ss :=
          { sel := frameSs s .w64
            hidden := if isNull (frameSs s .w64) then Config.freeHidden s.freeCount 0
              else descriptorOf s (frameSs s .w64) }
        freeCount := s.freeCount + 1 }

/-- The completion of IRET, IRETD and IRETQ to an outer privilege level, in protected, compatibility and 64-bit mode:
five items are used, the stack is switched, CPL is the RPL of the new CS, and ES, FS, GS, DS are invalidated
(45_iret.md R345 to R354; the bits of RSP above a narrower stack pointer are free, log 25, hidden parts log 26).  That an
IRETQ loads RF, AC and ID here is the spec's decision D11: log 30, DESIGN CHOICE, unsafe. -/
def Obligations.OuterLevelReturnCompletes : Prop :=
  ∀ (s : State) (i : Instr) (sz : OpSize) (d : Descriptor), PoppedForChecks s i sz →
    GoodCodeSegment s (frameCs s sz) d → s.cpl < rplOf (frameCs s sz) →
    (sz ≠ .w64 → FrameOnStack s sz 3 2 ∧ FrameReadable s sz 3 2) →
    ((∃ e, GoodStackSegment s (frameCs s sz) (frameSs s sz) e) ∨
      (s.msr.lma = true ∧ LegalNullSs d (frameCs s sz) (frameSs s sz))) →
    GoodReturnIp s d (frameIp s sz) →
    (sz = .w32 → s.cpl = 0 → flagOf (frameFlags s sz) .vm = false) →
    exec i s = .next
      { s with
        rip := frameIp s sz
        cs := { sel := frameCs s sz, hidden := d }
        eflags := flagsLoaded s (outerLevelMask sz s.cpl (ioplOf s.eflags)) (frameFlags s sz)
        gpr := { s.gpr with rsp := loadedRsp s sz (frameSp s sz) }
        ss :=
          { sel := frameSs s sz
            hidden := if isNull (frameSs s sz) then Config.freeHidden s.freeCount 0
              else descriptorOf s (frameSs s sz) }
        cpl := rplOf (frameCs s sz)
        es := invalidated s.freeCount 1 (rplOf (frameCs s sz)) s.es
        fs := invalidated s.freeCount 2 (rplOf (frameCs s sz)) s.fs
        gs := invalidated s.freeCount 3 (rplOf (frameCs s sz)) s.gs
        ds := invalidated s.freeCount 4 (rplOf (frameCs s sz)) s.ds
        freeCount := s.freeCount + 1 }

/-- The completion of IRETD to virtual-8086 mode, from protected mode at CPL 0 with VM = 1 in the image: nine items, no
descriptor; EIP is masked to 16 bits, every named flag is loaded, CPL is 3 (45_iret.md R333, R334; the hidden parts are
log 27, the upper half of RSP log 25). -/
def Obligations.ReturnToVirtual8086Completes : Prop :=
  ∀ s : State, modeOf s = .protectedMode → s.plat.vmxNonRoot = false → flagOf s.eflags .nt = false → s.cpl = 0 →
    FrameOnStack s .w32 0 3 → FrameReadable s .w32 0 3 → flagOf (frameFlags s .w32) .vm = true →
    FrameOnStack s .w32 3 6 → FrameReadable s .w32 3 6 →
    (frameIp s .w32 &&& 0xFFFF).toNat ≤ s.plat.v86SegLimit.toNat →
    exec .iretd s = .next
      { s with
        rip := frameIp s .w32 &&& 0xFFFF
        cs := { sel := frameCs s .w32, hidden := v86Hidden s (.code false) (frameCs s .w32) }
        eflags := flagsLoaded s 0x003F7FD5 (frameFlags s .w32)
        gpr := { s.gpr with rsp := loadedRsp s .w32 (frameSp s .w32) }
        ss := { sel := frameSel s .w32 4, hidden := v86Hidden s (.data true) (frameSel s .w32 4) }
        es := { sel := frameSel s .w32 5, hidden := v86Hidden s (.data true) (frameSel s .w32 5) }
        ds := { sel := frameSel s .w32 6, hidden := v86Hidden s (.data true) (frameSel s .w32 6) }
        fs := { sel := frameSel s .w32 7, hidden := v86Hidden s (.data true) (frameSel s .w32 7) }
        gs := { sel := frameSel s .w32 8, hidden := v86Hidden s (.data true) (frameSel s .w32 8) }
        cpl := 3
        freeCount := s.freeCount + 1 }

/-- The flags after a same-level return: each named flag and IOPL, with the conditions on CPL, IOPL and the operand size;
a flag not named keeps its value, VM among them (45_iret.md R340; ID where the part has CPUID, 10_state.md R27). -/
def Obligations.SameLevelReturnFlags : Prop :=
  ∀ (s t : State) (i : Instr) (sz : OpSize), PoppedForChecks s i sz → rplOf (frameCs s sz) = s.cpl →
    exec i s = .next t →
    ioplOf t.eflags = (if s.cpl = 0 then ioplOf (frameFlags s sz) else ioplOf s.eflags) ∧
    ∀ f : Flag, (f = .idf → s.cfg.cpuidSupported = true) →
      flagOf t.eflags f =
        if sameLevelLoads sz s.cpl (ioplOf s.eflags) f then flagOf (frameFlags s sz) f else flagOf s.eflags f

/-- The flags after an outer-level return (45_iret.md R351, decision D11; ID where the part has CPUID, 10_state.md
R27). -/
def Obligations.OuterLevelReturnFlags : Prop :=
  ∀ (s t : State) (i : Instr) (sz : OpSize), PoppedForChecks s i sz → s.cpl < rplOf (frameCs s sz) →
    exec i s = .next t →
    ioplOf t.eflags = (if s.cpl = 0 then ioplOf (frameFlags s sz) else ioplOf s.eflags) ∧
    ∀ f : Flag, (f = .idf → s.cfg.cpuidSupported = true) →
      flagOf t.eflags f =
        if outerLevelLoads sz s.cpl (ioplOf s.eflags) f then flagOf (frameFlags s sz) f else flagOf s.eflags f

/-- The data segment registers after a return to an outer level: a register that points to a data or non-conforming
code segment of a DPL below the new CPL gets the NULL selector; every other is left alone.  The test reads the hidden
part; CPL is the RPL of the return code segment selector (45_iret.md R353, R354). -/
def Obligations.DataSegmentsInvalidatedOnOuterReturn : Prop :=
  ∀ (s t : State) (i : Instr) (sz : OpSize), PoppedForChecks s i sz → s.cpl < rplOf (frameCs s sz) →
    exec i s = .next t →
    t.cpl = rplOf (frameCs s sz) ∧
    ∀ old new : SegReg, (old, new) ∈ [(s.es, t.es), (s.fs, t.fs), (s.gs, t.gs), (s.ds, t.ds)] →
      (isNull old.sel = false → isDataOrNonconforming old.hidden = true → old.hidden.dpl < t.cpl → new.sel = 0) ∧
      (isNull old.sel = true ∨ isDataOrNonconforming old.hidden = false ∨ t.cpl ≤ old.hidden.dpl → new = old)

/-- What an interrupt return leaves unchanged on every path: every byte of memory, every general register but the stack
pointer, every control register, every MSR, the tables, the platform and the part (45_iret.md R300, implicit outputs). -/
def Obligations.InterruptReturnFrame : Prop :=
  ∀ (s t : State) (i : Instr) (sz : OpSize), returnSize i = some sz → exec i s = .next t →
    (∀ a, t.mem.read a = s.mem.read a) ∧ t.gpr = { s.gpr with rsp := t.gpr.rsp } ∧ t.cr = s.cr ∧ t.msr = s.msr ∧
    t.tables = s.tables ∧ t.plat = s.plat ∧ t.cfg = s.cfg ∧
    (s.cpl = t.cpl → flagOf t.eflags .vm = flagOf s.eflags .vm →
      t.ds = s.ds ∧ t.es = s.es ∧ t.fs = s.fs ∧ t.gs = s.gs)

/-! ### Memory and the stack -/

/-- Little-endian: byte i of a value of n bytes at an address is the byte at that address plus i (20_memory.md R62,
decision D2, log 5). -/
def Obligations.MemoryReadsAreLittleEndian : Prop :=
  ∀ (s : State) (a : Qword) (n i : Nat), n ≤ 8 → i < n →
    (memRead s a n).extractLsb' (8 * i) 8 = byteAt s (a + BitVec.ofNat 64 i)

/-- A popped item is zero-extended from its width: an instruction pointer of 16 or 32 bits has nothing above them, and a
16-bit flags image has VM = 0 (45_iret.md R303). -/
def Obligations.PoppedItemsAreZeroExtended : Prop :=
  ∀ (s : State) (sz : OpSize) (k : Nat), (frameItem s sz k).toNat < 2 ^ (8 * sz.bytes) ∧
    flagOf (frameFlags s .w16) .vm = false

/-- The stack pointer advances modulo the stack's address size: 64 bits in 64-bit mode, else 32 or 16 by the size
attribute of the stack segment; the bits above it are untouched (20_memory.md R66, log 24). -/
def Obligations.StackPointerAdvancesModuloItsSize : Prop :=
  ∀ (s : State) (k : Nat),
    (inBits64 s = true → (rspAfterPop s k).toNat = (s.gpr.rsp.toNat + k) % 2 ^ 64) ∧
    (inBits64 s = false → s.ss.hidden.db = true →
      (rspAfterPop s k).toNat = s.gpr.rsp.toNat / 2 ^ 32 * 2 ^ 32 + (s.gpr.rsp.toNat + k) % 2 ^ 32) ∧
    (inBits64 s = false → s.ss.hidden.db = false →
      (rspAfterPop s k).toNat = s.gpr.rsp.toNat / 2 ^ 16 * 2 ^ 16 + (s.gpr.rsp.toNat + k) % 2 ^ 16)

/-! ### The whole machine -/

/-- The invariant that every step keeps, from every state: memory in canonical form, EFLAGS of named bits only, VM = 0 in
IA-32e mode, CPL 3 in virtual-8086 mode, a 32-bit instruction pointer outside 64-bit mode, and the RPL of CS equal to
CPL in protected and IA-32e mode (10_state.md R25, R28; 45_iret.md R333, R337, R353; 60_exceptions.md R395). -/
def Obligations.StepKeepsTheInvariant : Prop := ∀ s t : State, Inv s → step s = .next t → Inv t

/-- The invariant holds at reset; the reset values are the model's (log 2, log 3, log 4). -/
def Obligations.ResetMeetsTheInvariant : Prop := Inv State.reset

/-- Privilege is never gained: no step lowers CPL, and a step that changes it is an interrupt return, which leaves the RPL
of the new CS, or 3 on entering virtual-8086 mode (45_iret.md R325, R353; 60_exceptions.md R396, R397). -/
def Obligations.PrivilegeIsNeverGained : Prop :=
  ∀ s t : State, step s = .next t → s.cpl ≤ t.cpl ∧
    (t.cpl ≠ s.cpl → (∃ i sz, fetchInstr s = .ok i ∧ returnSize i = some sz) ∧
      (t.cpl = rplOf t.cs.sel ∨ (modeOf t = .virtual8086 ∧ t.cpl = 3)))

/-- Entering and leaving modes: no step switches CR0.PE or IA32_EFER.LMA; virtual-8086 mode is entered only by IRETD in
protected mode at CPL 0 with VM = 1 in the image, and no step leaves it; within IA-32e mode the L-bit of the code segment
loaded selects the mode (60_exceptions.md R397). -/
def Obligations.ModeTransitions : Prop :=
  ∀ s t : State, step s = .next t →
    t.cr.pe = s.cr.pe ∧ t.msr.lma = s.msr.lma ∧
    (modeOf t = .virtual8086 → modeOf s ≠ .virtual8086 →
      fetchInstr s = .ok .iretd ∧ modeOf s = .protectedMode ∧ s.cpl = 0 ∧ flagOf (frameFlags s .w32) .vm = true) ∧
    (modeOf s = .virtual8086 → modeOf t = .virtual8086) ∧
    (modeOf s = .realAddress → modeOf t = .realAddress) ∧
    (s.cr.pe = true → s.msr.lma = true → (modeOf t = .bits64 ↔ t.cs.hidden.long = true))

/-- The ID flag: a step changes it only on a part with CPUID, and only by IRETD or IRETQ (10_state.md R27;
44_cpuid_identification.md R280). -/
def Obligations.IdFlagNeedsCpuid : Prop :=
  ∀ s t : State, step s = .next t → flagOf t.eflags .idf ≠ flagOf s.eflags .idf →
    s.cfg.cpuidSupported = true ∧ (fetchInstr s = .ok .iretd ∨ ∃ rxb, fetchInstr s = .ok (.iretq rxb))

/-- IF changes only by an interrupt return, outside real-address mode only with CPL at most IOPL, in virtual-8086 mode
only with IOPL 3 (45_iret.md R365). -/
def Obligations.InterruptFlagNeedsPrivilege : Prop :=
  ∀ s t : State, step s = .next t → flagOf t.eflags .intf ≠ flagOf s.eflags .intf →
    (∃ i sz, fetchInstr s = .ok i ∧ returnSize i = some sz) ∧
    (modeOf s = .virtual8086 → ioplOf s.eflags = 3) ∧
    (modeOf s ≠ .realAddress → modeOf s ≠ .virtual8086 → s.cpl ≤ ioplOf s.eflags)

/-- IOPL, VIF, VIP and VM: a step at CPL above 0 outside real-address mode changes none of them, and a step in
real-address mode changes neither VM, VIF nor VIP (60_exceptions.md R396; 45_iret.md R311, R316, R340, R351). -/
def Obligations.PrivilegedFlagsNeedCplZero : Prop :=
  ∀ s t : State, step s = .next t →
    (modeOf s ≠ .realAddress → s.cpl ≠ 0 → ioplOf t.eflags = ioplOf s.eflags) ∧
    (modeOf s = .realAddress ∨ s.cpl ≠ 0 →
      flagOf t.eflags .vm = flagOf s.eflags .vm ∧ flagOf t.eflags .vif = flagOf s.eflags .vif ∧
      flagOf t.eflags .vip = flagOf s.eflags .vip)

/-- No step changes memory, the part, the control registers, the system tables, the platform, or any MSR but
IA32_BIOS_SIGN_ID: what a launch supplies stays (70_reset_and_hazards.md R412; 00_scope.md R10). -/
def Obligations.StepLeavesLaunchConstants : Prop :=
  ∀ s t : State, step s = .next t →
    (∀ a, t.mem.read a = s.mem.read a) ∧ t.cfg = s.cfg ∧ t.cr = s.cr ∧ t.tables = s.tables ∧ t.plat = s.plat ∧
    t.msr = { s.msr with biosSignId := t.msr.biosSignId }

/-- The one reset value the sources state: IA32_MISC_ENABLE.BOOT_NT4 is 0 (10_state.md R32). -/
def Obligations.ResetBootNt4IsZero : Prop := State.reset.msr.miscEnable.getLsbD 22 = false
end

