-- ==== Sys2Proof/Laws/State.lean ====
section
/-! SUPPORT. One lemma per field and update of the state, so that no proof unfolds a record update. -/

namespace Sys2Proof.Machine

variable (s : State)

@[simp] theorem State.setRip_gpr (v : Qword) : (s.setRip v).gpr = s.gpr := rfl
@[simp] theorem State.setRip_rip (v : Qword) : (s.setRip v).rip = v := rfl
@[simp] theorem State.setRip_eflags (v : Qword) : (s.setRip v).eflags = s.eflags := rfl
@[simp] theorem State.setRip_cpl (v : Qword) : (s.setRip v).cpl = s.cpl := rfl
@[simp] theorem State.setRip_cs (v : Qword) : (s.setRip v).cs = s.cs := rfl
@[simp] theorem State.setRip_ss (v : Qword) : (s.setRip v).ss = s.ss := rfl
@[simp] theorem State.setRip_ds (v : Qword) : (s.setRip v).ds = s.ds := rfl
@[simp] theorem State.setRip_es (v : Qword) : (s.setRip v).es = s.es := rfl
@[simp] theorem State.setRip_fs (v : Qword) : (s.setRip v).fs = s.fs := rfl
@[simp] theorem State.setRip_gs (v : Qword) : (s.setRip v).gs = s.gs := rfl
@[simp] theorem State.setRip_cr (v : Qword) : (s.setRip v).cr = s.cr := rfl
@[simp] theorem State.setRip_msr (v : Qword) : (s.setRip v).msr = s.msr := rfl
@[simp] theorem State.setRip_tables (v : Qword) : (s.setRip v).tables = s.tables := rfl
@[simp] theorem State.setRip_mem (v : Qword) : (s.setRip v).mem = s.mem := rfl
@[simp] theorem State.setRip_plat (v : Qword) : (s.setRip v).plat = s.plat := rfl
@[simp] theorem State.setRip_cfg (v : Qword) : (s.setRip v).cfg = s.cfg := rfl
@[simp] theorem State.setRip_freeCount (v : Qword) : (s.setRip v).freeCount = s.freeCount := rfl

@[simp] theorem State.setEflags_gpr (v : Dword) : (s.setEflags v).gpr = s.gpr := rfl
@[simp] theorem State.setEflags_rip (v : Dword) : (s.setEflags v).rip = s.rip := rfl
@[simp] theorem State.setEflags_eflags (v : Dword) : (s.setEflags v).eflags = v := rfl
@[simp] theorem State.setEflags_cpl (v : Dword) : (s.setEflags v).cpl = s.cpl := rfl
@[simp] theorem State.setEflags_cs (v : Dword) : (s.setEflags v).cs = s.cs := rfl
@[simp] theorem State.setEflags_ss (v : Dword) : (s.setEflags v).ss = s.ss := rfl
@[simp] theorem State.setEflags_ds (v : Dword) : (s.setEflags v).ds = s.ds := rfl
@[simp] theorem State.setEflags_es (v : Dword) : (s.setEflags v).es = s.es := rfl
@[simp] theorem State.setEflags_fs (v : Dword) : (s.setEflags v).fs = s.fs := rfl
@[simp] theorem State.setEflags_gs (v : Dword) : (s.setEflags v).gs = s.gs := rfl
@[simp] theorem State.setEflags_cr (v : Dword) : (s.setEflags v).cr = s.cr := rfl
@[simp] theorem State.setEflags_msr (v : Dword) : (s.setEflags v).msr = s.msr := rfl
@[simp] theorem State.setEflags_tables (v : Dword) : (s.setEflags v).tables = s.tables := rfl
@[simp] theorem State.setEflags_mem (v : Dword) : (s.setEflags v).mem = s.mem := rfl
@[simp] theorem State.setEflags_plat (v : Dword) : (s.setEflags v).plat = s.plat := rfl
@[simp] theorem State.setEflags_cfg (v : Dword) : (s.setEflags v).cfg = s.cfg := rfl
@[simp] theorem State.setEflags_freeCount (v : Dword) : (s.setEflags v).freeCount = s.freeCount := rfl

@[simp] theorem State.setCpl_gpr (v : BitVec 2) : (s.setCpl v).gpr = s.gpr := rfl
@[simp] theorem State.setCpl_rip (v : BitVec 2) : (s.setCpl v).rip = s.rip := rfl
@[simp] theorem State.setCpl_eflags (v : BitVec 2) : (s.setCpl v).eflags = s.eflags := rfl
@[simp] theorem State.setCpl_cpl (v : BitVec 2) : (s.setCpl v).cpl = v := rfl
@[simp] theorem State.setCpl_cs (v : BitVec 2) : (s.setCpl v).cs = s.cs := rfl
@[simp] theorem State.setCpl_ss (v : BitVec 2) : (s.setCpl v).ss = s.ss := rfl
@[simp] theorem State.setCpl_ds (v : BitVec 2) : (s.setCpl v).ds = s.ds := rfl
@[simp] theorem State.setCpl_es (v : BitVec 2) : (s.setCpl v).es = s.es := rfl
@[simp] theorem State.setCpl_fs (v : BitVec 2) : (s.setCpl v).fs = s.fs := rfl
@[simp] theorem State.setCpl_gs (v : BitVec 2) : (s.setCpl v).gs = s.gs := rfl
@[simp] theorem State.setCpl_cr (v : BitVec 2) : (s.setCpl v).cr = s.cr := rfl
@[simp] theorem State.setCpl_msr (v : BitVec 2) : (s.setCpl v).msr = s.msr := rfl
@[simp] theorem State.setCpl_tables (v : BitVec 2) : (s.setCpl v).tables = s.tables := rfl
@[simp] theorem State.setCpl_mem (v : BitVec 2) : (s.setCpl v).mem = s.mem := rfl
@[simp] theorem State.setCpl_plat (v : BitVec 2) : (s.setCpl v).plat = s.plat := rfl
@[simp] theorem State.setCpl_cfg (v : BitVec 2) : (s.setCpl v).cfg = s.cfg := rfl
@[simp] theorem State.setCpl_freeCount (v : BitVec 2) : (s.setCpl v).freeCount = s.freeCount := rfl

@[simp] theorem State.setCs_gpr (v : SegReg) : (s.setCs v).gpr = s.gpr := rfl
@[simp] theorem State.setCs_rip (v : SegReg) : (s.setCs v).rip = s.rip := rfl
@[simp] theorem State.setCs_eflags (v : SegReg) : (s.setCs v).eflags = s.eflags := rfl
@[simp] theorem State.setCs_cpl (v : SegReg) : (s.setCs v).cpl = s.cpl := rfl
@[simp] theorem State.setCs_cs (v : SegReg) : (s.setCs v).cs = v := rfl
@[simp] theorem State.setCs_ss (v : SegReg) : (s.setCs v).ss = s.ss := rfl
@[simp] theorem State.setCs_ds (v : SegReg) : (s.setCs v).ds = s.ds := rfl
@[simp] theorem State.setCs_es (v : SegReg) : (s.setCs v).es = s.es := rfl
@[simp] theorem State.setCs_fs (v : SegReg) : (s.setCs v).fs = s.fs := rfl
@[simp] theorem State.setCs_gs (v : SegReg) : (s.setCs v).gs = s.gs := rfl
@[simp] theorem State.setCs_cr (v : SegReg) : (s.setCs v).cr = s.cr := rfl
@[simp] theorem State.setCs_msr (v : SegReg) : (s.setCs v).msr = s.msr := rfl
@[simp] theorem State.setCs_tables (v : SegReg) : (s.setCs v).tables = s.tables := rfl
@[simp] theorem State.setCs_mem (v : SegReg) : (s.setCs v).mem = s.mem := rfl
@[simp] theorem State.setCs_plat (v : SegReg) : (s.setCs v).plat = s.plat := rfl
@[simp] theorem State.setCs_cfg (v : SegReg) : (s.setCs v).cfg = s.cfg := rfl
@[simp] theorem State.setCs_freeCount (v : SegReg) : (s.setCs v).freeCount = s.freeCount := rfl

@[simp] theorem State.setSs_gpr (v : SegReg) : (s.setSs v).gpr = s.gpr := rfl
@[simp] theorem State.setSs_rip (v : SegReg) : (s.setSs v).rip = s.rip := rfl
@[simp] theorem State.setSs_eflags (v : SegReg) : (s.setSs v).eflags = s.eflags := rfl
@[simp] theorem State.setSs_cpl (v : SegReg) : (s.setSs v).cpl = s.cpl := rfl
@[simp] theorem State.setSs_cs (v : SegReg) : (s.setSs v).cs = s.cs := rfl
@[simp] theorem State.setSs_ss (v : SegReg) : (s.setSs v).ss = v := rfl
@[simp] theorem State.setSs_ds (v : SegReg) : (s.setSs v).ds = s.ds := rfl
@[simp] theorem State.setSs_es (v : SegReg) : (s.setSs v).es = s.es := rfl
@[simp] theorem State.setSs_fs (v : SegReg) : (s.setSs v).fs = s.fs := rfl
@[simp] theorem State.setSs_gs (v : SegReg) : (s.setSs v).gs = s.gs := rfl
@[simp] theorem State.setSs_cr (v : SegReg) : (s.setSs v).cr = s.cr := rfl
@[simp] theorem State.setSs_msr (v : SegReg) : (s.setSs v).msr = s.msr := rfl
@[simp] theorem State.setSs_tables (v : SegReg) : (s.setSs v).tables = s.tables := rfl
@[simp] theorem State.setSs_mem (v : SegReg) : (s.setSs v).mem = s.mem := rfl
@[simp] theorem State.setSs_plat (v : SegReg) : (s.setSs v).plat = s.plat := rfl
@[simp] theorem State.setSs_cfg (v : SegReg) : (s.setSs v).cfg = s.cfg := rfl
@[simp] theorem State.setSs_freeCount (v : SegReg) : (s.setSs v).freeCount = s.freeCount := rfl

@[simp] theorem State.setDs_gpr (v : SegReg) : (s.setDs v).gpr = s.gpr := rfl
@[simp] theorem State.setDs_rip (v : SegReg) : (s.setDs v).rip = s.rip := rfl
@[simp] theorem State.setDs_eflags (v : SegReg) : (s.setDs v).eflags = s.eflags := rfl
@[simp] theorem State.setDs_cpl (v : SegReg) : (s.setDs v).cpl = s.cpl := rfl
@[simp] theorem State.setDs_cs (v : SegReg) : (s.setDs v).cs = s.cs := rfl
@[simp] theorem State.setDs_ss (v : SegReg) : (s.setDs v).ss = s.ss := rfl
@[simp] theorem State.setDs_ds (v : SegReg) : (s.setDs v).ds = v := rfl
@[simp] theorem State.setDs_es (v : SegReg) : (s.setDs v).es = s.es := rfl
@[simp] theorem State.setDs_fs (v : SegReg) : (s.setDs v).fs = s.fs := rfl
@[simp] theorem State.setDs_gs (v : SegReg) : (s.setDs v).gs = s.gs := rfl
@[simp] theorem State.setDs_cr (v : SegReg) : (s.setDs v).cr = s.cr := rfl
@[simp] theorem State.setDs_msr (v : SegReg) : (s.setDs v).msr = s.msr := rfl
@[simp] theorem State.setDs_tables (v : SegReg) : (s.setDs v).tables = s.tables := rfl
@[simp] theorem State.setDs_mem (v : SegReg) : (s.setDs v).mem = s.mem := rfl
@[simp] theorem State.setDs_plat (v : SegReg) : (s.setDs v).plat = s.plat := rfl
@[simp] theorem State.setDs_cfg (v : SegReg) : (s.setDs v).cfg = s.cfg := rfl
@[simp] theorem State.setDs_freeCount (v : SegReg) : (s.setDs v).freeCount = s.freeCount := rfl

@[simp] theorem State.setEs_gpr (v : SegReg) : (s.setEs v).gpr = s.gpr := rfl
@[simp] theorem State.setEs_rip (v : SegReg) : (s.setEs v).rip = s.rip := rfl
@[simp] theorem State.setEs_eflags (v : SegReg) : (s.setEs v).eflags = s.eflags := rfl
@[simp] theorem State.setEs_cpl (v : SegReg) : (s.setEs v).cpl = s.cpl := rfl
@[simp] theorem State.setEs_cs (v : SegReg) : (s.setEs v).cs = s.cs := rfl
@[simp] theorem State.setEs_ss (v : SegReg) : (s.setEs v).ss = s.ss := rfl
@[simp] theorem State.setEs_ds (v : SegReg) : (s.setEs v).ds = s.ds := rfl
@[simp] theorem State.setEs_es (v : SegReg) : (s.setEs v).es = v := rfl
@[simp] theorem State.setEs_fs (v : SegReg) : (s.setEs v).fs = s.fs := rfl
@[simp] theorem State.setEs_gs (v : SegReg) : (s.setEs v).gs = s.gs := rfl
@[simp] theorem State.setEs_cr (v : SegReg) : (s.setEs v).cr = s.cr := rfl
@[simp] theorem State.setEs_msr (v : SegReg) : (s.setEs v).msr = s.msr := rfl
@[simp] theorem State.setEs_tables (v : SegReg) : (s.setEs v).tables = s.tables := rfl
@[simp] theorem State.setEs_mem (v : SegReg) : (s.setEs v).mem = s.mem := rfl
@[simp] theorem State.setEs_plat (v : SegReg) : (s.setEs v).plat = s.plat := rfl
@[simp] theorem State.setEs_cfg (v : SegReg) : (s.setEs v).cfg = s.cfg := rfl
@[simp] theorem State.setEs_freeCount (v : SegReg) : (s.setEs v).freeCount = s.freeCount := rfl

@[simp] theorem State.setFs_gpr (v : SegReg) : (s.setFs v).gpr = s.gpr := rfl
@[simp] theorem State.setFs_rip (v : SegReg) : (s.setFs v).rip = s.rip := rfl
@[simp] theorem State.setFs_eflags (v : SegReg) : (s.setFs v).eflags = s.eflags := rfl
@[simp] theorem State.setFs_cpl (v : SegReg) : (s.setFs v).cpl = s.cpl := rfl
@[simp] theorem State.setFs_cs (v : SegReg) : (s.setFs v).cs = s.cs := rfl
@[simp] theorem State.setFs_ss (v : SegReg) : (s.setFs v).ss = s.ss := rfl
@[simp] theorem State.setFs_ds (v : SegReg) : (s.setFs v).ds = s.ds := rfl
@[simp] theorem State.setFs_es (v : SegReg) : (s.setFs v).es = s.es := rfl
@[simp] theorem State.setFs_fs (v : SegReg) : (s.setFs v).fs = v := rfl
@[simp] theorem State.setFs_gs (v : SegReg) : (s.setFs v).gs = s.gs := rfl
@[simp] theorem State.setFs_cr (v : SegReg) : (s.setFs v).cr = s.cr := rfl
@[simp] theorem State.setFs_msr (v : SegReg) : (s.setFs v).msr = s.msr := rfl
@[simp] theorem State.setFs_tables (v : SegReg) : (s.setFs v).tables = s.tables := rfl
@[simp] theorem State.setFs_mem (v : SegReg) : (s.setFs v).mem = s.mem := rfl
@[simp] theorem State.setFs_plat (v : SegReg) : (s.setFs v).plat = s.plat := rfl
@[simp] theorem State.setFs_cfg (v : SegReg) : (s.setFs v).cfg = s.cfg := rfl
@[simp] theorem State.setFs_freeCount (v : SegReg) : (s.setFs v).freeCount = s.freeCount := rfl

@[simp] theorem State.setGs_gpr (v : SegReg) : (s.setGs v).gpr = s.gpr := rfl
@[simp] theorem State.setGs_rip (v : SegReg) : (s.setGs v).rip = s.rip := rfl
@[simp] theorem State.setGs_eflags (v : SegReg) : (s.setGs v).eflags = s.eflags := rfl
@[simp] theorem State.setGs_cpl (v : SegReg) : (s.setGs v).cpl = s.cpl := rfl
@[simp] theorem State.setGs_cs (v : SegReg) : (s.setGs v).cs = s.cs := rfl
@[simp] theorem State.setGs_ss (v : SegReg) : (s.setGs v).ss = s.ss := rfl
@[simp] theorem State.setGs_ds (v : SegReg) : (s.setGs v).ds = s.ds := rfl
@[simp] theorem State.setGs_es (v : SegReg) : (s.setGs v).es = s.es := rfl
@[simp] theorem State.setGs_fs (v : SegReg) : (s.setGs v).fs = s.fs := rfl
@[simp] theorem State.setGs_gs (v : SegReg) : (s.setGs v).gs = v := rfl
@[simp] theorem State.setGs_cr (v : SegReg) : (s.setGs v).cr = s.cr := rfl
@[simp] theorem State.setGs_msr (v : SegReg) : (s.setGs v).msr = s.msr := rfl
@[simp] theorem State.setGs_tables (v : SegReg) : (s.setGs v).tables = s.tables := rfl
@[simp] theorem State.setGs_mem (v : SegReg) : (s.setGs v).mem = s.mem := rfl
@[simp] theorem State.setGs_plat (v : SegReg) : (s.setGs v).plat = s.plat := rfl
@[simp] theorem State.setGs_cfg (v : SegReg) : (s.setGs v).cfg = s.cfg := rfl
@[simp] theorem State.setGs_freeCount (v : SegReg) : (s.setGs v).freeCount = s.freeCount := rfl

@[simp] theorem State.setGpr_gpr (v : Gprs) : (s.setGpr v).gpr = v := rfl
@[simp] theorem State.setGpr_rip (v : Gprs) : (s.setGpr v).rip = s.rip := rfl
@[simp] theorem State.setGpr_eflags (v : Gprs) : (s.setGpr v).eflags = s.eflags := rfl
@[simp] theorem State.setGpr_cpl (v : Gprs) : (s.setGpr v).cpl = s.cpl := rfl
@[simp] theorem State.setGpr_cs (v : Gprs) : (s.setGpr v).cs = s.cs := rfl
@[simp] theorem State.setGpr_ss (v : Gprs) : (s.setGpr v).ss = s.ss := rfl
@[simp] theorem State.setGpr_ds (v : Gprs) : (s.setGpr v).ds = s.ds := rfl
@[simp] theorem State.setGpr_es (v : Gprs) : (s.setGpr v).es = s.es := rfl
@[simp] theorem State.setGpr_fs (v : Gprs) : (s.setGpr v).fs = s.fs := rfl
@[simp] theorem State.setGpr_gs (v : Gprs) : (s.setGpr v).gs = s.gs := rfl
@[simp] theorem State.setGpr_cr (v : Gprs) : (s.setGpr v).cr = s.cr := rfl
@[simp] theorem State.setGpr_msr (v : Gprs) : (s.setGpr v).msr = s.msr := rfl
@[simp] theorem State.setGpr_tables (v : Gprs) : (s.setGpr v).tables = s.tables := rfl
@[simp] theorem State.setGpr_mem (v : Gprs) : (s.setGpr v).mem = s.mem := rfl
@[simp] theorem State.setGpr_plat (v : Gprs) : (s.setGpr v).plat = s.plat := rfl
@[simp] theorem State.setGpr_cfg (v : Gprs) : (s.setGpr v).cfg = s.cfg := rfl
@[simp] theorem State.setGpr_freeCount (v : Gprs) : (s.setGpr v).freeCount = s.freeCount := rfl

@[simp] theorem State.setMem_gpr (v : Memory) : (s.setMem v).gpr = s.gpr := rfl
@[simp] theorem State.setMem_rip (v : Memory) : (s.setMem v).rip = s.rip := rfl
@[simp] theorem State.setMem_eflags (v : Memory) : (s.setMem v).eflags = s.eflags := rfl
@[simp] theorem State.setMem_cpl (v : Memory) : (s.setMem v).cpl = s.cpl := rfl
@[simp] theorem State.setMem_cs (v : Memory) : (s.setMem v).cs = s.cs := rfl
@[simp] theorem State.setMem_ss (v : Memory) : (s.setMem v).ss = s.ss := rfl
@[simp] theorem State.setMem_ds (v : Memory) : (s.setMem v).ds = s.ds := rfl
@[simp] theorem State.setMem_es (v : Memory) : (s.setMem v).es = s.es := rfl
@[simp] theorem State.setMem_fs (v : Memory) : (s.setMem v).fs = s.fs := rfl
@[simp] theorem State.setMem_gs (v : Memory) : (s.setMem v).gs = s.gs := rfl
@[simp] theorem State.setMem_cr (v : Memory) : (s.setMem v).cr = s.cr := rfl
@[simp] theorem State.setMem_msr (v : Memory) : (s.setMem v).msr = s.msr := rfl
@[simp] theorem State.setMem_tables (v : Memory) : (s.setMem v).tables = s.tables := rfl
@[simp] theorem State.setMem_mem (v : Memory) : (s.setMem v).mem = v := rfl
@[simp] theorem State.setMem_plat (v : Memory) : (s.setMem v).plat = s.plat := rfl
@[simp] theorem State.setMem_cfg (v : Memory) : (s.setMem v).cfg = s.cfg := rfl
@[simp] theorem State.setMem_freeCount (v : Memory) : (s.setMem v).freeCount = s.freeCount := rfl

@[simp] theorem State.setRsp_rip (v : Qword) : (s.setRsp v).rip = s.rip := rfl
@[simp] theorem State.setRsp_eflags (v : Qword) : (s.setRsp v).eflags = s.eflags := rfl
@[simp] theorem State.setRsp_cpl (v : Qword) : (s.setRsp v).cpl = s.cpl := rfl
@[simp] theorem State.setRsp_cs (v : Qword) : (s.setRsp v).cs = s.cs := rfl
@[simp] theorem State.setRsp_ss (v : Qword) : (s.setRsp v).ss = s.ss := rfl
@[simp] theorem State.setRsp_ds (v : Qword) : (s.setRsp v).ds = s.ds := rfl
@[simp] theorem State.setRsp_es (v : Qword) : (s.setRsp v).es = s.es := rfl
@[simp] theorem State.setRsp_fs (v : Qword) : (s.setRsp v).fs = s.fs := rfl
@[simp] theorem State.setRsp_gs (v : Qword) : (s.setRsp v).gs = s.gs := rfl
@[simp] theorem State.setRsp_cr (v : Qword) : (s.setRsp v).cr = s.cr := rfl
@[simp] theorem State.setRsp_msr (v : Qword) : (s.setRsp v).msr = s.msr := rfl
@[simp] theorem State.setRsp_tables (v : Qword) : (s.setRsp v).tables = s.tables := rfl
@[simp] theorem State.setRsp_mem (v : Qword) : (s.setRsp v).mem = s.mem := rfl
@[simp] theorem State.setRsp_plat (v : Qword) : (s.setRsp v).plat = s.plat := rfl
@[simp] theorem State.setRsp_cfg (v : Qword) : (s.setRsp v).cfg = s.cfg := rfl
@[simp] theorem State.setRsp_freeCount (v : Qword) : (s.setRsp v).freeCount = s.freeCount := rfl
@[simp] theorem State.setRsp_rsp (v : Qword) : (s.setRsp v).gpr.rsp = v := rfl
@[simp] theorem State.setRsp_rax (v : Qword) : (s.setRsp v).gpr.rax = s.gpr.rax := rfl
@[simp] theorem State.setRsp_rbx (v : Qword) : (s.setRsp v).gpr.rbx = s.gpr.rbx := rfl
@[simp] theorem State.setRsp_rcx (v : Qword) : (s.setRsp v).gpr.rcx = s.gpr.rcx := rfl
@[simp] theorem State.setRsp_rdx (v : Qword) : (s.setRsp v).gpr.rdx = s.gpr.rdx := rfl
@[simp] theorem State.setRsp_rbp (v : Qword) : (s.setRsp v).gpr.rbp = s.gpr.rbp := rfl
@[simp] theorem State.setRsp_rsi (v : Qword) : (s.setRsp v).gpr.rsi = s.gpr.rsi := rfl
@[simp] theorem State.setRsp_rdi (v : Qword) : (s.setRsp v).gpr.rdi = s.gpr.rdi := rfl
@[simp] theorem State.setRsp_r8 (v : Qword) : (s.setRsp v).gpr.r8 = s.gpr.r8 := rfl
@[simp] theorem State.setRsp_r9 (v : Qword) : (s.setRsp v).gpr.r9 = s.gpr.r9 := rfl
@[simp] theorem State.setRsp_r10 (v : Qword) : (s.setRsp v).gpr.r10 = s.gpr.r10 := rfl
@[simp] theorem State.setRsp_r11 (v : Qword) : (s.setRsp v).gpr.r11 = s.gpr.r11 := rfl
@[simp] theorem State.setRsp_r12 (v : Qword) : (s.setRsp v).gpr.r12 = s.gpr.r12 := rfl
@[simp] theorem State.setRsp_r13 (v : Qword) : (s.setRsp v).gpr.r13 = s.gpr.r13 := rfl
@[simp] theorem State.setRsp_r14 (v : Qword) : (s.setRsp v).gpr.r14 = s.gpr.r14 := rfl
@[simp] theorem State.setRsp_r15 (v : Qword) : (s.setRsp v).gpr.r15 = s.gpr.r15 := rfl

@[simp] theorem State.setBiosSignId_gpr (v : Qword) : (s.setBiosSignId v).gpr = s.gpr := rfl
@[simp] theorem State.setBiosSignId_rip (v : Qword) : (s.setBiosSignId v).rip = s.rip := rfl
@[simp] theorem State.setBiosSignId_eflags (v : Qword) : (s.setBiosSignId v).eflags = s.eflags := rfl
@[simp] theorem State.setBiosSignId_cpl (v : Qword) : (s.setBiosSignId v).cpl = s.cpl := rfl
@[simp] theorem State.setBiosSignId_cs (v : Qword) : (s.setBiosSignId v).cs = s.cs := rfl
@[simp] theorem State.setBiosSignId_ss (v : Qword) : (s.setBiosSignId v).ss = s.ss := rfl
@[simp] theorem State.setBiosSignId_ds (v : Qword) : (s.setBiosSignId v).ds = s.ds := rfl
@[simp] theorem State.setBiosSignId_es (v : Qword) : (s.setBiosSignId v).es = s.es := rfl
@[simp] theorem State.setBiosSignId_fs (v : Qword) : (s.setBiosSignId v).fs = s.fs := rfl
@[simp] theorem State.setBiosSignId_gs (v : Qword) : (s.setBiosSignId v).gs = s.gs := rfl
@[simp] theorem State.setBiosSignId_cr (v : Qword) : (s.setBiosSignId v).cr = s.cr := rfl
@[simp] theorem State.setBiosSignId_tables (v : Qword) : (s.setBiosSignId v).tables = s.tables := rfl
@[simp] theorem State.setBiosSignId_mem (v : Qword) : (s.setBiosSignId v).mem = s.mem := rfl
@[simp] theorem State.setBiosSignId_plat (v : Qword) : (s.setBiosSignId v).plat = s.plat := rfl
@[simp] theorem State.setBiosSignId_cfg (v : Qword) : (s.setBiosSignId v).cfg = s.cfg := rfl
@[simp] theorem State.setBiosSignId_freeCount (v : Qword) : (s.setBiosSignId v).freeCount = s.freeCount := rfl
@[simp] theorem State.setBiosSignId_msr (v : Qword) :
    (s.setBiosSignId v).msr = { s.msr with biosSignId := v } := rfl

@[simp] theorem State.nextFree_gpr : s.nextFree.gpr = s.gpr := rfl
@[simp] theorem State.nextFree_rip : s.nextFree.rip = s.rip := rfl
@[simp] theorem State.nextFree_eflags : s.nextFree.eflags = s.eflags := rfl
@[simp] theorem State.nextFree_cpl : s.nextFree.cpl = s.cpl := rfl
@[simp] theorem State.nextFree_cs : s.nextFree.cs = s.cs := rfl
@[simp] theorem State.nextFree_ss : s.nextFree.ss = s.ss := rfl
@[simp] theorem State.nextFree_ds : s.nextFree.ds = s.ds := rfl
@[simp] theorem State.nextFree_es : s.nextFree.es = s.es := rfl
@[simp] theorem State.nextFree_fs : s.nextFree.fs = s.fs := rfl
@[simp] theorem State.nextFree_gs : s.nextFree.gs = s.gs := rfl
@[simp] theorem State.nextFree_cr : s.nextFree.cr = s.cr := rfl
@[simp] theorem State.nextFree_msr : s.nextFree.msr = s.msr := rfl
@[simp] theorem State.nextFree_tables : s.nextFree.tables = s.tables := rfl
@[simp] theorem State.nextFree_mem : s.nextFree.mem = s.mem := rfl
@[simp] theorem State.nextFree_plat : s.nextFree.plat = s.plat := rfl
@[simp] theorem State.nextFree_cfg : s.nextFree.cfg = s.cfg := rfl
@[simp] theorem State.nextFree_freeCount : s.nextFree.freeCount = s.freeCount + 1 := rfl
@[simp] theorem serialise_eq : serialise s = s := rfl

variable (intel64 : Bool) (g : Gprs) (q : Quad)

@[simp] theorem writeQuad_rax : (writeQuad intel64 g q).rax = writeReg32 intel64 g.rax q.eax := rfl
@[simp] theorem writeQuad_rbx : (writeQuad intel64 g q).rbx = writeReg32 intel64 g.rbx q.ebx := rfl
@[simp] theorem writeQuad_rcx : (writeQuad intel64 g q).rcx = writeReg32 intel64 g.rcx q.ecx := rfl
@[simp] theorem writeQuad_rdx : (writeQuad intel64 g q).rdx = writeReg32 intel64 g.rdx q.edx := rfl
@[simp] theorem writeQuad_rsp : (writeQuad intel64 g q).rsp = g.rsp := rfl
@[simp] theorem writeQuad_rbp : (writeQuad intel64 g q).rbp = g.rbp := rfl
@[simp] theorem writeQuad_rsi : (writeQuad intel64 g q).rsi = g.rsi := rfl
@[simp] theorem writeQuad_rdi : (writeQuad intel64 g q).rdi = g.rdi := rfl
@[simp] theorem writeQuad_r8 : (writeQuad intel64 g q).r8 = g.r8 := rfl
@[simp] theorem writeQuad_r9 : (writeQuad intel64 g q).r9 = g.r9 := rfl
@[simp] theorem writeQuad_r10 : (writeQuad intel64 g q).r10 = g.r10 := rfl
@[simp] theorem writeQuad_r11 : (writeQuad intel64 g q).r11 = g.r11 := rfl
@[simp] theorem writeQuad_r12 : (writeQuad intel64 g q).r12 = g.r12 := rfl
@[simp] theorem writeQuad_r13 : (writeQuad intel64 g q).r13 = g.r13 := rfl
@[simp] theorem writeQuad_r14 : (writeQuad intel64 g q).r14 = g.r14 := rfl
@[simp] theorem writeQuad_r15 : (writeQuad intel64 g q).r15 = g.r15 := rfl

end Sys2Proof.Machine
end

