-- ==== Sys2Proof/Laws/Ops.lean ====
section
/-! SUPPORT. What each shared operation can do, said once: how an instruction's outcome comes about, the checks, the
fetch of a descriptor, the pops, and a load of the flags. -/

namespace Sys2Proof.Machine

/-! ### Outcomes -/

theorem finish_eq_next {r : Result State} {t : State} : finish r = .next t ↔ r = .ok t := by
  rcases r with e | s
  · cases e <;> simp [finish, raise]
  · simp [finish]

theorem finish_eq_fault {r : Result State} {f : Fault} : finish r = .fault f ↔ r = .error (.fault f) := by
  rcases r with e | s
  · cases e <;> simp [finish, raise]
  · simp [finish]

theorem finish_eq_refused {r : Result State} {f : Refusal} : finish r = .refused f ↔ r = .error (.refuse f) := by
  rcases r with e | s
  · cases e <;> simp [finish, raise]
  · simp [finish]

/-- A sequence of parts answers a value exactly when each part does. -/
theorem Result.bind_eq_ok {α β : Type} {r : Result α} {f : α → Result β} {b : β} :
    (r >>= f) = .ok b ↔ ∃ a, r = .ok a ∧ f a = .ok b := by
  cases r <;> simp [bind, Except.bind]

theorem Result.pure_eq_ok {α : Type} {a b : α} : (pure a : Result α) = .ok b ↔ a = b := by
  simp [pure, Except.pure]

/-- A part that answers lets the next one run. -/
@[simp] theorem Result.ok_bind {α β : Type} (a : α) (f : α → Result β) :
    ((Except.ok a : Result α) >>= f) = f a := rfl

/-- A part that stops, stops the whole. -/
@[simp] theorem Result.error_bind {α β : Type} (e : Stop) (f : α → Result β) :
    ((Except.error e : Result α) >>= f) = .error e := rfl

/-! ### Checks -/

@[simp] theorem raiseIf_eq_ok {b : Bool} {f : Fault} {u : Unit} : raiseIf b f = .ok u ↔ b = false := by
  cases b <;> simp [raiseIf]

@[simp] theorem refuseIf_eq_ok {b : Bool} {r : Refusal} {u : Unit} : refuseIf b r = .ok u ↔ b = false := by
  cases b <;> simp [refuseIf]

@[simp] theorem raiseIf_false (f : Fault) : raiseIf false f = .ok () := rfl
@[simp] theorem raiseIf_true (f : Fault) : raiseIf true f = .error (.fault f) := rfl
@[simp] theorem refuseIf_false (r : Refusal) : refuseIf false r = .ok () := rfl
@[simp] theorem refuseIf_true (r : Refusal) : refuseIf true r = .error (.refuse r) := rfl
@[simp] theorem raiseOneOf_nil (s : State) : raiseOneOf s [] = .ok () := rfl
@[simp] theorem raiseOneOf_one (s : State) (f : Fault) : raiseOneOf s [f] = .error (.fault f) := rfl

@[simp] theorem raiseOneOf_eq_ok {s : State} {l : List Fault} {u : Unit} : raiseOneOf s l = .ok u ↔ l = [] := by
  match l with
  | [] => simp [raiseOneOf]
  | [f] => simp [raiseOneOf]
  | f :: g :: rest => simp [raiseOneOf]

/-- Where an exception applies, one of those that apply is raised. -/
theorem raiseOneOf_of_ne_nil {s : State} {l : List Fault} (h : l ≠ []) :
    ∃ f ∈ l, raiseOneOf s l = .error (.fault f) := by
  match l, h with
  | [f], _ => exact ⟨f, by simp, rfl⟩
  | f :: g :: rest, _ =>
    refine ⟨_, ?_, rfl⟩
    rw [List.getD_eq_getElem _ _ (by simpa using Nat.mod_lt (Config.faultChoice s.freeCount) (Nat.succ_pos (rest.length + 1)))]
    exact List.getElem_mem _

/-! ### The instruction pointer -/

theorem advancedRip_eq_ok {s : State} {len : Nat} {q : Qword} (h : advancedRip s len = .ok q) :
    q = s.rip + BitVec.ofNat 64 len ∧
      ((inBits64 s = true ∧ s.rip.toNat + len < 2 ^ 64) ∨
        (inBits64 s = false ∧ s.rip.toNat + len ≤ s.cs.hidden.limit.toNat)) := by
  simp only [advancedRip] at h
  split_ifs at h with h1 h2 h2
  · exact ⟨by simpa using h.symm, .inl ⟨h1, h2⟩⟩
  · exact ⟨by simpa using h.symm, .inr ⟨by simpa using h1, h2⟩⟩

/-! ### Pops and descriptors -/

/-- A group of items is popped exactly when no test, no read faults and no byte lies in the APIC window. -/
theorem popGroup_eq_ok {s : State} {sz : OpSize} {first count : Nat} {tests : List Fault} {u : Unit} :
    popGroup s sz first count tests = .ok u ↔
      tests = [] ∧ frameFaults s sz first count = [] ∧ frameTouchesApic s sz first count = false := by
  simp [popGroup, Result.bind_eq_ok, and_assoc]

/-- Fetching a descriptor answers it exactly when nothing faults and no byte lies in the APIC window. -/
theorem fetchDescriptor_eq_ok {s : State} {sel : Word} {d : Descriptor} :
    fetchDescriptor s sel = .ok d ↔
      fetchFaults s sel = [] ∧ fetchTouchesApic s sel = false ∧ d = descriptorOf s sel := by
  simp only [fetchDescriptor, Result.bind_eq_ok, Result.pure_eq_ok, raiseOneOf_eq_ok, refuseIf_eq_ok, exists_const]
  exact and_congr_right fun _ => and_congr_right fun _ => eq_comm

/-- A descriptor that can be fetched is in its table. -/
theorem tableEntry_of_fetchFaults {s : State} {sel : Word} (h : fetchFaults s sel = []) :
    ∃ e, tableEntry s sel = some e ∧ descriptorOf s sel = e.desc := by
  cases he : tableEntry s sel with
  | none => simp [fetchFaults, he] at h
  | some e => exact ⟨e, rfl, by simp [descriptorOf, he]⟩

/-- The NULL selectors are 0000H to 0003H (45_iret.md R322). -/
theorem isNull_iff {sel : Word} : isNull sel = true ↔ sel.toNat ≤ 3 := by
  have h := sel.isLt
  have hz : (0 : BitVec 14).toNat = 0 := rfl
  rw [isNull, beq_iff_eq, ← BitVec.toNat_inj, BitVec.extractLsb'_toNat, Nat.shiftRight_eq_div_pow, hz]
  omega

/-! ### Flags -/

/-- Each bit after a load: a reserved bit is 0; a bit under the mask, and writable, is the image's; any other is the
old one. -/
theorem getLsbD_loadFlags (sup : Bool) (mask old image : Dword) (i : Nat) :
    (loadFlags sup mask old image).getLsbD i =
      (maskNamed.getLsbD i &&
        if mask.getLsbD i && (writableMask sup).getLsbD i then image.getLsbD i else old.getLsbD i) := by
  by_cases hi : i < 32
  · simp only [loadFlags, BitVec.getLsbD_and, BitVec.getLsbD_or, BitVec.getLsbD_not, hi, decide_true, Bool.true_and]
    cases mask.getLsbD i <;> cases (writableMask sup).getLsbD i <;> cases maskNamed.getLsbD i <;> simp
  · simp [BitVec.getLsbD_of_ge _ i (Nat.le_of_not_lt hi)]

/-- Each flag after a load: the image's under the mask, else the old one; ID is stuck without CPUID. -/
theorem flagOf_loadFlags (sup : Bool) (mask old image : Dword) (f : Flag) :
    flagOf (loadFlags sup mask old image) f =
      if mask.getLsbD f.bit = true ∧ (f = .idf → sup = true) then flagOf image f else flagOf old f := by
  have hn : maskNamed.getLsbD f.bit = true := by cases f <;> decide
  have hw : (writableMask sup).getLsbD f.bit = decide (f = .idf → sup = true) := by
    cases sup <;> cases f <;> decide
  simp only [flagOf, getLsbD_loadFlags, hn, hw, Bool.true_and, Bool.and_eq_true, decide_eq_true_eq]

/-- A load keeps the reserved bits out of the state. -/
theorem loadFlags_named (sup : Bool) (mask old image : Dword) :
    loadFlags sup mask old image &&& ~~~maskNamed = 0 := by
  simp only [loadFlags]
  rw [BitVec.and_assoc]
  simp

/-- IOPL after a load whose mask has none or both of its bits. -/
theorem ioplOf_loadFlags (sup : Bool) (mask old image : Dword) (b : Bool)
    (h12 : mask.getLsbD 12 = b) (h13 : mask.getLsbD 13 = b) :
    ioplOf (loadFlags sup mask old image) = if b then ioplOf image else ioplOf old := by
  have hw : (writableMask sup).getLsbD 12 = true ∧ (writableMask sup).getLsbD 13 = true := by cases sup <;> decide
  have hn : maskNamed.getLsbD 12 = true ∧ maskNamed.getLsbD 13 = true := by decide
  refine BitVec.eq_of_getLsbD_eq fun i hi => ?_
  have : i = 0 ∨ i = 1 := by omega
  rcases this with rfl | rfl <;> cases b <;>
    simp only [ioplOf, BitVec.getLsbD_extractLsb', getLsbD_loadFlags, h12, h13, hw.1, hw.2, hn.1, hn.2, Nat.add_zero,
      Nat.reduceAdd, Bool.true_and, Bool.false_and, if_true, if_false, Bool.false_eq_true]

end Sys2Proof.Machine
end

