-- ==== Sys2Proof/Laws/Cpuid.lean ====
section
/-! SUPPORT. Everything CPUID can do, and what an enumeration of sub-leaves returns, said once. -/

namespace Sys2Proof.Machine

/-- If CPUID answers a next state, none of its tests held and the state is `cpuidNext`. -/
theorem execCpuid_next_cases {s t : State} (h : execCpuid s = .next t) :
    s.cfg.cpuidSupported = true ∧ s.plat.vmxNonRoot = false ∧ bootNt4 s = false ∧ repeatsLeaf02 s = false ∧
      t = cpuidNext s (s.rip + 2) ∧
      ((inBits64 s = true ∧ s.rip.toNat + 2 < 2 ^ 64) ∨
        (inBits64 s = false ∧ s.rip.toNat + 2 ≤ s.cs.hidden.limit.toNat)) := by
  simp only [execCpuid, finish_eq_next, Result.bind_eq_ok, raiseIf_eq_ok, refuseIf_eq_ok, exists_const,
    Result.pure_eq_ok, Bool.not_eq_false'] at h
  obtain ⟨h1, h2, h3, h4, q, hq, rfl⟩ := h
  obtain ⟨rfl, hl⟩ := advancedRip_eq_ok hq
  exact ⟨h1, h2, h3, h4, rfl, hl⟩

/-- CPUID stops with a fault only where the part lacks it. -/
theorem execCpuid_fault_cases {s : State} {f : Fault} (h : execCpuid s = .fault f) :
    f = .ud ∧ s.cfg.cpuidSupported = false := by
  rw [execCpuid, finish_eq_fault] at h
  cases hc : s.cfg.cpuidSupported
  · simp only [hc, Bool.not_false, raiseIf_true, Result.error_bind, Except.error.injEq, Stop.fault.injEq] at h
    exact ⟨h.symm, rfl⟩
  · exfalso
    simp only [hc, Bool.not_true, raiseIf_false, Result.ok_bind] at h
    simp only [refuseIf, advancedRip] at h
    split_ifs at h <;> cases h

/-- An enumeration under a mask returns the answers of exactly the sub-leaves whose bit is set. -/
theorem mem_enumerateMasked {view : CpuidView} {leaf : Dword} {mask : Qword} {first count i : Nat} {q : Quad} :
    (i, q) ∈ enumerateMasked view leaf mask first count ↔
      (first ≤ i ∧ i < first + count) ∧ mask.getLsbD i = true ∧ q = view leaf (BitVec.ofNat 32 i) := by
  simp only [enumerateMasked, List.mem_filterMap, List.mem_map, List.mem_range, Option.ite_none_right_eq_some,
    Option.some.injEq, Prod.mk.injEq]
  constructor
  · rintro ⟨_, ⟨k, hk, rfl⟩, hb, rfl, rfl⟩
    exact ⟨by omega, hb, rfl⟩
  · rintro ⟨hi, hb, rfl⟩
    exact ⟨i, ⟨i - first, by omega, by omega⟩, hb, rfl, rfl⟩

end Sys2Proof.Machine
end

