-- ==== Sys2Proof/Laws/InterruptReturn.lean ====
section
/-! SUPPORT. Everything an interrupt return can do, said once: if it answers a next state, which path it took, what
held on the way, and the state of that path. -/

namespace Sys2Proof.Machine

/-- The checks on the return code segment that pass (45_iret.md R324 to R328, R330). -/
theorem codeSegmentFaults_eq_nil {s : State} {sel : Word} {d : Descriptor} (h : codeSegmentFaults s sel d = []) :
    isCode d = true ∧ (s.msr.lma && d.db && d.long) = false ∧ s.cpl ≤ rplOf sel ∧ d.present = true ∧
      (d.kind = .code true → d.dpl ≤ rplOf sel) ∧ (d.kind = .code false → d.dpl = rplOf sel) := by
  simp only [codeSegmentFaults] at h
  split_ifs at h with h1 h2 h3 h4 h5 h6
  · exact ⟨by simpa using h1, by simpa using h2, BitVec.not_lt.1 h3, by simpa using h6,
      fun _ => BitVec.not_lt.1 h5, fun hk => by simp [hk] at h4⟩
  · simp at h
  · simp at h
  · simp at h
  · rename_i h7 h8
    exact ⟨by simpa using h1, by simpa using h2, BitVec.not_lt.1 h3, by simpa using h8, fun hk => absurd hk h4,
      fun _ => by simpa using h7⟩

/-- The checks on the return stack segment that pass: the legal NULL selector, or a selector in its table whose
descriptor can be read, with the RPL of the level returned to, and a descriptor that is good where its read reaches no
device (45_iret.md R346 to R349, R357). -/
theorem stackSegmentFaults_eq_nil {s : State} {d : Descriptor} {csSel ssSel : Word}
    (h : stackSegmentFaults s d csSel ssSel = []) :
    (isNull ssSel = true ∧ nullSsLegal s d csSel ssSel = true) ∨
    (isNull ssSel = false ∧ fetchFaults s ssSel = [] ∧ rplOf ssSel = rplOf csSel ∧
      (fetchTouchesApic s ssSel = false → (descriptorOf s ssSel).kind = .data true ∧
        (descriptorOf s ssSel).dpl = rplOf csSel ∧ (descriptorOf s ssSel).present = true)) := by
  simp only [stackSegmentFaults] at h
  split_ifs at h with hn hl ht hf hr ha
  · exact .inl ⟨hn, hl⟩
  · simp [hf] at h
  · exact absurd h hr
  · have hrpl : rplOf ssSel = rplOf csSel := by simpa [stackRplFaults] using hr
    exact .inr ⟨by simpa using hn, by simpa using hf, hrpl, fun h' => by rw [ha] at h'; cases h'⟩
  · have hrpl : rplOf ssSel = rplOf csSel := by simpa [stackRplFaults] using hr
    refine .inr ⟨by simpa using hn, by simpa using hf, hrpl, fun _ => ?_⟩
    simp only [stackDescriptorFaults] at h
    split_ifs at h with h1 h2
    simp only [isWritableData, Bool.or_eq_true, Bool.not_eq_true', bne_iff_ne, not_or, Bool.not_eq_false, beq_iff_eq,
      ne_eq, not_not] at h1
    exact ⟨h1.1, h1.2, by simpa using h2⟩

/-- The image of the instruction pointer can be read ahead when the group it stands in can be popped. -/
theorem readsIpAhead_of_popped {s : State} {sz : OpSize} {count : Nat} (hc : 0 < count)
    (hf : frameFaults s sz 0 count = []) (ha : frameTouchesApic s sz 0 count = false) : readsIpAhead s sz = true := by
  have hmem : stackLinear s 0 ∈ frameAddrs s sz 0 count :=
    List.mem_map.2 ⟨0, List.mem_range.2 hc, by simp⟩
  have hp : pageFaults s (stackLinear s 0) sz.bytes = false := by
    have h2 := (List.append_eq_nil_iff.1 hf).2
    split_ifs at h2 with h
    exact Bool.eq_false_iff.2 fun hx => h (List.any_eq_true.2 ⟨_, hmem, hx⟩)
  have ht : touchesApic s (stackLinear s 0) sz.bytes = false :=
    Bool.eq_false_iff.2 fun hx => by
      rw [frameTouchesApic, List.any_eq_true.2 ⟨_, hmem, hx⟩] at ha
      cases ha
  rw [readsIpAhead, hp, ht]
  rfl

/-- The segment tests that pass in real-address mode (45_iret.md R311, R312). -/
theorem realSegmentTests_eq_nil {s : State} {sz : OpSize} :
    realSegmentTests s sz = [] ↔
      stackTest s sz 0 3 .none = [] ∧ (readsIpAhead s sz = true → badRealIp s sz = false) := by
  simp only [realSegmentTests]
  by_cases h : stackTest s sz 0 3 .none = []
  · cases hr : readsIpAhead s sz <;> cases hb : badRealIp s sz <;> simp [h]
  · simp [h]

/-- Where the descriptor of the return code segment can be had, no exception comes before its checks. -/
theorem ia32eUnfetchedFaults_of_fetched {s : State} {sz : OpSize} (hf : fetchFaults s (frameCs s sz) = [])
    (ha : fetchTouchesApic s (frameCs s sz) = false) : ia32eUnfetchedFaults s sz = [] := by
  simp [ia32eUnfetchedFaults, hf, ha]

/-- A good return instruction pointer (45_iret.md R336). -/
theorem returnIpFaults_eq_nil {s : State} {d : Descriptor} {ip : Qword} :
    returnIpFaults s d ip = [] ↔ badReturnIp s d ip = false := by
  cases h : badReturnIp s d ip <;> simp [returnIpFaults, h]

/-- What holds when an interrupt return in protected or IA-32e mode has passed its checks on the code segment `d` and
branches on the privilege level returned to. -/
structure ReachesPrivilegeReturn (s : State) (sz : OpSize) (d : Descriptor) : Prop where
  mode : (modeOf s = .protectedMode ∧ popGroup s sz 0 3 (stackTest s sz 0 3 .zero) = .ok () ∧
      (flagOf (frameFlags s sz) .vm && s.cpl == 0) = false) ∨
    ((modeOf s = .compatibility ∨ modeOf s = .bits64) ∧
      popGroup s sz 0 (ia32eItems sz) (stackTest s sz 0 (ia32eItems sz) .zero) = .ok () ∧
      ia32eFirstFaults s sz d = [])
  nt : flagOf s.eflags .nt = false
  csNotNull : isNull (frameCs s sz) = false
  fetched : fetchDescriptor s (frameCs s sz) = .ok d
  code : codeSegmentFaults s (frameCs s sz) d = []

/-- The paths of an interrupt return that answers a next state. -/
inductive Returned (s : State) (sz : OpSize) : State → Prop where
  | real (mode : modeOf s = .realAddress)
      (pop : popGroup s sz 0 3 (stackTest s sz 0 3 .none) = .ok ())
      (limit : withinCsLimit s.cs.hidden.limit (frameIp s sz) = true) (low : (frameIp s sz).toNat ≤ 0xFFFF) :
      Returned s sz (realAddressNext s sz)
  | v86 (mode : modeOf s = .virtual8086) (vme : s.cr.vme = false) (iopl : ioplOf s.eflags = 3)
      (pop : popGroup s sz 0 3 (v86SegmentTests s sz) = .ok ()) :
      Returned s sz (virtual8086Next s sz)
  | toV86 (mode : modeOf s = .protectedMode) (nt : flagOf s.eflags .nt = false)
      (pop : popGroup s sz 0 3 (stackTest s sz 0 3 .zero) = .ok ())
      (vm : flagOf (frameFlags s sz) .vm = true) (cpl : s.cpl = 0)
      (pop' : popGroup s sz 3 6 (toV86SegmentTests s sz) = .ok ()) :
      Returned s sz (toV86Next s sz)
  | same (d : Descriptor) (checks : ReachesPrivilegeReturn s sz d) (level : rplOf (frameCs s sz) = s.cpl)
      (size : sz ≠ .w64) (mode : inBits64 s = false) (ip : badReturnIp s d (frameIp s sz) = false) :
      Returned s sz (sameLevelNext s sz d)
  | same64 (d : Descriptor) (checks : ReachesPrivilegeReturn s sz d) (level : rplOf (frameCs s sz) = s.cpl)
      (size : sz = .w64) (stack : stackSegmentFaults s d (frameCs s .w64) (frameSs s .w64) = [])
      (apic : stackSegmentTouchesApic s (frameSs s .w64) = false) (ip : badReturnIp s d (frameIp s .w64) = false) :
      Returned s sz (sameLevelNext64 s d)
  | outer (d : Descriptor) (checks : ReachesPrivilegeReturn s sz d) (level : s.cpl < rplOf (frameCs s sz))
      (pop : popOuterItems s sz = .ok ()) (stack : stackSegmentFaults s d (frameCs s sz) (frameSs s sz) = [])
      (apic : stackSegmentTouchesApic s (frameSs s sz) = false) (ip : badReturnIp s d (frameIp s sz) = false)
      (vm : loadsVmInIa32e s sz = false) :
      Returned s sz (outerLevelNext s sz d)

theorem realAddressReturn_cases {s t : State} {sz : OpSize} (hm : modeOf s = .realAddress)
    (h : realAddressReturn s sz = .ok t) : Returned s sz t := by
  simp only [realAddressReturn, Result.bind_eq_ok, Result.pure_eq_ok] at h
  obtain ⟨u, hp, rfl⟩ := h
  obtain ⟨hs, hf, ha⟩ := popGroup_eq_ok.1 hp
  obtain ⟨ht, hb⟩ := realSegmentTests_eq_nil.1 hs
  have hip := hb (readsIpAhead_of_popped (by decide) hf ha)
  simp only [badRealIp, Bool.or_eq_false_iff, Bool.not_eq_false', decide_eq_false_iff_not, not_lt] at hip
  exact .real hm (popGroup_eq_ok.2 ⟨ht, hf, ha⟩) hip.1 hip.2

theorem virtual8086Return_cases {s t : State} {sz : OpSize} (hm : modeOf s = .virtual8086)
    (h : virtual8086Return s sz = .ok t) : Returned s sz t := by
  simp only [virtual8086Return, Result.bind_eq_ok, raiseIf_eq_ok, refuseIf_eq_ok, exists_const, Result.pure_eq_ok,
    bne_eq_false_iff_eq] at h
  obtain ⟨hv, hi, u, hp, rfl⟩ := h
  exact .v86 hm hv hi hp

/-- A task return never answers a next state. -/
theorem taskReturn_ne_ok (s t : State) : taskReturn s ≠ .ok t := by
  simp [taskReturn, Result.bind_eq_ok]

theorem sameLevelReturn_cases {s t : State} {sz : OpSize} {d : Descriptor} (hc : ReachesPrivilegeReturn s sz d)
    (hl : rplOf (frameCs s sz) = s.cpl) (h : sameLevelReturn s sz d = .ok t) : Returned s sz t := by
  cases sz with
  | w64 =>
    simp only [sameLevelReturn, Result.bind_eq_ok, raiseOneOf_eq_ok, refuseIf_eq_ok, exists_const, Result.pure_eq_ok,
      List.append_eq_nil_iff, returnIpFaults_eq_nil] at h
    obtain ⟨⟨hs, hi⟩, ha, rfl⟩ := h
    exact .same64 d hc hl rfl hs ha hi
  | w16 =>
    simp only [sameLevelReturn, Result.bind_eq_ok, raiseOneOf_eq_ok, refuseIf_eq_ok, exists_const, Result.pure_eq_ok,
      returnIpFaults_eq_nil] at h
    obtain ⟨hb, hi, rfl⟩ := h
    exact .same d hc hl (by decide) hb hi
  | w32 =>
    simp only [sameLevelReturn, Result.bind_eq_ok, raiseOneOf_eq_ok, refuseIf_eq_ok, exists_const, Result.pure_eq_ok,
      returnIpFaults_eq_nil] at h
    obtain ⟨hb, hi, rfl⟩ := h
    exact .same d hc hl (by decide) hb hi

theorem outerLevelReturn_cases {s t : State} {sz : OpSize} {d : Descriptor} (hc : ReachesPrivilegeReturn s sz d)
    (hl : s.cpl < rplOf (frameCs s sz)) (h : outerLevelReturn s sz d = .ok t) : Returned s sz t := by
  simp only [outerLevelReturn, Result.bind_eq_ok, raiseOneOf_eq_ok, refuseIf_eq_ok, exists_const, Result.pure_eq_ok,
    returnIpFaults_eq_nil] at h
  obtain ⟨u, hp, hs, ha, hi, hv, rfl⟩ := h
  exact .outer d hc hl hp hs ha hi hv

theorem privilegeReturn_cases {s t : State} {sz : OpSize} {d : Descriptor} (hc : ReachesPrivilegeReturn s sz d)
    (h : privilegeReturn s sz d = .ok t) : Returned s sz t := by
  simp only [privilegeReturn] at h
  split_ifs at h with hl
  · exact outerLevelReturn_cases hc hl h
  · exact sameLevelReturn_cases hc (BitVec.le_antisymm (BitVec.not_lt.1 hl) (codeSegmentFaults_eq_nil hc.code).2.2.1) h

theorem protectedModeReturn_cases {s t : State} {sz : OpSize} (hm : modeOf s = .protectedMode)
    (h : protectedModeReturn s sz = .ok t) : Returned s sz t := by
  simp only [protectedModeReturn] at h
  split_ifs at h with hnt
  · exact absurd h (taskReturn_ne_ok s t)
  · have hnt' : flagOf s.eflags .nt = false := by simpa using hnt
    rename_i hv
    simp only [toVirtual8086Return, Result.bind_eq_ok, Result.pure_eq_ok] at h
    obtain ⟨u, hp, u', hp', rfl⟩ := h
    simp only [Bool.and_eq_true, beq_iff_eq] at hv
    exact .toV86 hm hnt' hp hv.1 hv.2 hp'
  · have hnt' : flagOf s.eflags .nt = false := by simpa using hnt
    rename_i hv
    simp only [protectedModeCheckedReturn, Result.bind_eq_ok, raiseIf_eq_ok, raiseOneOf_eq_ok, exists_const] at h
    obtain ⟨u, hp, hn, d, hd, hc, h⟩ := h
    exact privilegeReturn_cases ⟨.inl ⟨hm, hp, by simpa using hv⟩, hnt', hn, hd, hc⟩ h

theorem ia32eReturn_cases {s t : State} {sz : OpSize} (hm : modeOf s = .compatibility ∨ modeOf s = .bits64)
    (h : ia32eReturn s sz = .ok t) : Returned s sz t := by
  simp only [ia32eReturn, ia32eCheckedReturn, Result.bind_eq_ok, raiseIf_eq_ok, raiseOneOf_eq_ok, exists_const,
    List.append_eq_nil_iff] at h
  obtain ⟨hnt, u, hp, hn, -, d, hd, ⟨hf, hc⟩, h⟩ := h
  exact privilegeReturn_cases ⟨.inr ⟨hm, hp, hf⟩, hnt, hn, hd, hc⟩ h

/-- If an interrupt return answers a next state, it took one of the paths and left that path's state. -/
theorem interruptReturn_cases {s t : State} {sz : OpSize} (h : interruptReturn s sz = .ok t) :
    s.plat.vmxNonRoot = false ∧ Returned s sz t := by
  simp only [interruptReturn, Result.bind_eq_ok, refuseIf_eq_ok, exists_const] at h
  obtain ⟨hx, h⟩ := h
  refine ⟨hx, ?_⟩
  cases hm : modeOf s <;> rw [hm] at h
  · exact realAddressReturn_cases hm h
  · exact protectedModeReturn_cases hm h
  · exact virtual8086Return_cases hm h
  · exact ia32eReturn_cases (.inl hm) h
  · exact ia32eReturn_cases (.inr hm) h

theorem execIret_next_cases {s t : State} (h : execIret s = .next t) :
    s.plat.vmxNonRoot = false ∧ Returned s .w16 t := interruptReturn_cases (finish_eq_next.1 h)

theorem execIretd_next_cases {s t : State} (h : execIretd s = .next t) :
    s.plat.vmxNonRoot = false ∧ Returned s .w32 t := interruptReturn_cases (finish_eq_next.1 h)

theorem execIretq_next_cases {rxb : BitVec 3} {s t : State} (h : execIretq rxb s = .next t) :
    inBits64 s = true ∧ s.plat.vmxNonRoot = false ∧ Returned s .w64 t := by
  simp only [execIretq, finish_eq_next, Result.bind_eq_ok, refuseIf_eq_ok, exists_const, Bool.not_eq_false'] at h
  exact ⟨h.1, interruptReturn_cases h.2⟩

end Sys2Proof.Machine
end

