-- ==== Sys2Proof/Laws/Memory.lean ====
section
/-! SUPPORT. Memory: every operation keeps the canonical form, and what a read after a write gives. -/

namespace Sys2Proof.Machine

/-- Reading from a list of cells, one cell at a time. -/
theorem Memory.read_cons (k : Nat) (v : Byte) (m : Memory) (a : Nat) :
    Memory.read ((k, v) :: m) a = if k = a then v else Memory.read m a := by
  by_cases h : k = a
  · subst h; simp [Memory.read]
  · have hb : (k == a) = false := by simpa using h
    simp [Memory.read, hb, h]

/-- An address below every listed one reads as unlisted. -/
theorem Memory.read_of_lt {m : Memory} {a : Nat} (h : ∀ c ∈ m, a < c.1) : Memory.read m a = unlistedByte := by
  induction m with
  | nil => rfl
  | cons c m ih =>
    obtain ⟨k, v⟩ := c
    have hk : a < k := h (k, v) (by simp)
    rw [Memory.read_cons, if_neg (by omega)]
    exact ih fun c hc => h c (by simp [hc])

/-- What may stand in memory after a store: a cell of before, or the byte stored. -/
theorem Memory.mem_write {m : Memory} {a : Nat} {b : Byte} {c : Host.Cell} (h : c ∈ m.write a b) :
    c ∈ m ∨ (c = (a, b) ∧ b ≠ unlistedByte) := by
  induction m with
  | nil =>
    by_cases hb : b = unlistedByte
    · simp [Memory.write, hb] at h
    · simp only [Memory.write, hb, if_false, List.mem_singleton] at h; exact .inr ⟨h, hb⟩
  | cons d m ih =>
    obtain ⟨k, v⟩ := d
    simp only [Memory.write] at h
    split_ifs at h with h1 hb h2
    · exact .inl h
    · rcases List.mem_cons.1 h with h | h
      · exact .inr ⟨h, hb⟩
      · exact .inl h
    · exact .inl (List.mem_cons_of_mem _ h)
    · rename_i hb'
      rcases List.mem_cons.1 h with h | h
      · exact .inr ⟨h, hb'⟩
      · exact .inl (List.mem_cons_of_mem _ h)
    · rcases List.mem_cons.1 h with h | h
      · exact .inl (by simp [h])
      · rcases ih h with h | h
        · exact .inl (List.mem_cons_of_mem _ h)
        · exact .inr h

/-- A store keeps the canonical form. -/
theorem Memory.write_wf {m : Memory} (h : m.wf) (a : Nat) (b : Byte) : Memory.wf (m.write a b) := by
  refine ⟨?_, fun c hc => ?_⟩
  · induction m with
    | nil => by_cases hb : b = unlistedByte <;> simp [Memory.write, hb]
    | cons d m ih =>
      obtain ⟨k, v⟩ := d
      have hp := List.pairwise_cons.1 h.1
      simp only [Memory.write]
      split_ifs with h1 hb h2 hb
      · exact h.1
      · refine List.pairwise_cons.2 ⟨fun c hc => ?_, h.1⟩
        rcases List.mem_cons.1 hc with hc | hc
        · simpa [hc] using h1
        · exact lt_trans h1 (hp.1 c hc)
      · exact hp.2
      · exact List.pairwise_cons.2 ⟨fun c hc => by simpa [h2] using hp.1 c hc, hp.2⟩
      · refine List.pairwise_cons.2 ⟨fun c hc => ?_, ih ⟨hp.2, fun c hc => h.2 c (List.mem_cons_of_mem _ hc)⟩⟩
        rcases Memory.mem_write hc with hc | hc
        · exact hp.1 c hc
        · simp only [hc.1]; omega
  · rcases Memory.mem_write hc with hc | hc
    · exact h.2 c hc
    · simpa [hc.1] using hc.2

/-- A store leaves every other address as it was. -/
theorem Memory.read_write_other (m : Memory) {a a' : Nat} (b : Byte) (h : a' ≠ a) :
    Memory.read (m.write a b) a' = Memory.read m a' := by
  induction m with
  | nil =>
    by_cases hb : b = unlistedByte
    · simp [Memory.write, hb]
    · simp [Memory.write, hb, Memory.read_cons, h.symm]
  | cons d m ih =>
    obtain ⟨k, v⟩ := d
    simp only [Memory.write]
    split_ifs with h1 hb h2 hb
    · rfl
    · rw [Memory.read_cons a b, if_neg h.symm]
    · rw [Memory.read_cons, if_neg (by omega)]
    · rw [Memory.read_cons, if_neg h.symm, Memory.read_cons, if_neg (by omega)]
    · rw [Memory.read_cons, Memory.read_cons, ih]

/-- A store is read back. -/
theorem Memory.read_write_same {m : Memory} (h : m.wf) (a : Nat) (b : Byte) : Memory.read (m.write a b) a = b := by
  induction m with
  | nil =>
    by_cases hb : b = unlistedByte
    · simp [Memory.write, hb, Memory.read]
    · simp [Memory.write, hb, Memory.read_cons]
  | cons d m ih =>
    obtain ⟨k, v⟩ := d
    have hp := List.pairwise_cons.1 h.1
    simp only [Memory.write]
    split_ifs with h1 hb h2 hb
    · rw [hb]
      refine Memory.read_of_lt fun c hc => ?_
      rcases List.mem_cons.1 hc with hc | hc
      · simpa [hc] using h1
      · exact lt_trans h1 (hp.1 c hc)
    · simp [Memory.read_cons]
    · rw [hb]
      exact Memory.read_of_lt fun c hc => by simpa [h2] using hp.1 c hc
    · simp [Memory.read_cons]
    · rw [Memory.read_cons, if_neg (by omega)]
      exact ih ⟨hp.2, fun c hc => h.2 c (List.mem_cons_of_mem _ hc)⟩

/-- Memory at reset has the canonical form. -/
theorem State.reset_mem_wf : State.reset.mem.wf := by decide

/-- Placing bytes keeps the canonical form. -/
theorem placeBytes_mem_wf {s : State} (h : s.mem.wf) (bytes : List Byte) (k : Nat) :
    (placeBytes s bytes k).mem.wf := by
  induction bytes generalizing s k with
  | nil => exact h
  | cons b rest ih =>
    simp only [placeBytes]
    split
    · exact ih h _
    · exact ih (Memory.write_wf h _ _) _

/-- Placing an instruction keeps the canonical form. -/
theorem State.withFetchWord_mem_wf {s : State} (h : s.mem.wf) (nbits w : Nat) : (s.withFetchWord nbits w).mem.wf := by
  simp only [State.withFetchWord, placeFetchWord]
  exact placeBytes_mem_wf (by split <;> exact h) _ _

end Sys2Proof.Machine
end

