-- ==== Sys2Proof/Laws/PerInstr.lean ====
section
/-! SUPPORT. A fact about every instruction as syntax, one lemma per constructor. -/

/-- Under every code size the encoding of the instruction is one to four bytes and ends in the last byte of its row of
the opcode table: A2H for CPUID, CFH for the interrupt returns (30_encoding.md R91, R92, R95). -/
def Sys2Proof.Laws.EncodedShape.Statement (i : Sys2Proof.Instr) : Prop :=
  ∀ c, 1 ≤ (Sys2Proof.encode c i).length ∧ (Sys2Proof.encode c i).length ≤ Sys2Proof.maxInstrBytes ∧
    (Sys2Proof.encode c i).getLast? =
      some (if i = .cpuid ∨ i = .lockCpuid then 0xA2 else 0xCF)

namespace Sys2Proof.Laws.EncodedShape

theorem cpuid : Statement .cpuid := fun c => by cases c <;> decide
theorem iret : Statement .iret := fun c => by cases c <;> decide
theorem iretd : Statement .iretd := fun c => by cases c <;> decide
theorem iretq (rxb : BitVec 3) : Statement (.iretq rxb) := fun c => by
  cases c <;> simp [Sys2Proof.encode, Sys2Proof.maxInstrBytes]
theorem lockCpuid : Statement .lockCpuid := fun c => by cases c <;> decide
theorem lockIretIretd : Statement .lockIretIretd := fun c => by cases c <;> decide
theorem lockIretq (rxb : BitVec 3) : Statement (.lockIretq rxb) := fun c => by
  cases c <;> simp [Sys2Proof.encode, Sys2Proof.maxInstrBytes]

end Sys2Proof.Laws.EncodedShape
end

