-- ==== Sys2Proof/Laws/Step.lean ====
section
/-! SUPPORT. Everything an instruction and a step can do, said once. -/

namespace Sys2Proof.Machine

/-- If an instruction answers a next state, it is CPUID with its state, or an interrupt return on one of its paths. -/
theorem exec_next_cases {i : Instr} {s t : State} (h : exec i s = .next t) :
    (i = .cpuid ∧ t = cpuidNext s (s.rip + 2) ∧ s.cfg.cpuidSupported = true ∧
      ((inBits64 s = true ∧ s.rip.toNat + 2 < 2 ^ 64) ∨
        (inBits64 s = false ∧ s.rip.toNat + 2 ≤ s.cs.hidden.limit.toNat))) ∨
    (i = .iret ∧ Returned s .w16 t) ∨ (i = .iretd ∧ Returned s .w32 t) ∨
    ((∃ rxb, i = .iretq rxb) ∧ inBits64 s = true ∧ Returned s .w64 t) := by
  cases i with
  | cpuid =>
    obtain ⟨h1, -, -, -, h2, h3⟩ := execCpuid_next_cases h
    exact .inl ⟨rfl, h2, h1, h3⟩
  | iret => exact .inr (.inl ⟨rfl, (execIret_next_cases h).2⟩)
  | iretd => exact .inr (.inr (.inl ⟨rfl, (execIretd_next_cases h).2⟩))
  | iretq rxb =>
    obtain ⟨h1, -, h2⟩ := execIretq_next_cases (rxb := rxb) h
    exact .inr (.inr (.inr ⟨⟨rxb, rfl⟩, h1, h2⟩))
  | lockCpuid => cases h
  | lockIretIretd => cases h
  | lockIretq rxb => cases h

/-- If a step answers a next state, an instruction was fetched and it answered that state. -/
theorem step_next_cases {s t : State} (h : step s = .next t) : ∃ i, fetchInstr s = .ok i ∧ exec i s = .next t := by
  simp only [step] at h
  split at h
  · rename_i i hi
    exact ⟨i, hi, h⟩
  · cases h

end Sys2Proof.Machine
end

