-- ==== Sys2Proof/Machine/Exceptions.lean ====
section
/-! DEFINITION. The exceptions the sources name and the frames an interrupt return consumes (60_exceptions.md R371,
R391). -/

namespace Sys2Proof.Machine

/-- Every exception the two pages name (60_exceptions.md R371). -/
inductive ExceptionName where
  | ud | ts | np | ss | gp | pf | ac
  /-- "Exception 18 is defined for Machine Checks"; raised by nothing in scope -/
  | machineCheck
  deriving DecidableEq, Repr

/-- The vector of an exception: 18 is from the source, the others PRESUMED (60_exceptions.md R371, G17, log 42). -/
def ExceptionName.vector : ExceptionName → Nat
  | .ud => 6
  | .ts => 10
  | .np => 11
  | .ss => 12
  | .gp => 13
  | .pf => 14
  | .ac => 17
  | .machineCheck => 18

/-- The code recorded with an exception: as raised, or the opaque fault-code of a page fault (60_exceptions.md
R370). -/
inductive RecordedCode where
  | code (c : ErrorCode)
  | faultCode
  deriving DecidableEq, Repr

/-- The pair (exception name, code) that a raise records (60_exceptions.md R370). -/
def Fault.record : Fault → ExceptionName × RecordedCode
  | .ud => (.ud, .code .none)
  | .ts sel => (.ts, .code (.selector sel))
  | .np sel => (.np, .code (.selector sel))
  | .ss c => (.ss, .code c)
  | .gp c => (.gp, .code c)
  | .pf => (.pf, .faultCode)
  | .ac => (.ac, .code .zero)

/-- The shapes of frame (60_exceptions.md R391). -/
inductive FrameShape where
  /-- IP, CS, FLAGS -/
  | sameLevel
  /-- IP, CS, FLAGS, SP, SS -/
  | outerLevel
  /-- EIP, CS, EFLAGS, ESP, SS, ES, DS, FS, GS -/
  | toVirtual8086
  deriving DecidableEq, Repr

/-- The items of a frame. -/
def FrameShape.items : FrameShape → Nat
  | .sameLevel => 3
  | .outerLevel => 5
  | .toVirtual8086 => 9

/-- The bytes of a frame (60_exceptions.md R391). -/
def FrameShape.bytes (f : FrameShape) (sz : OpSize) : Nat := f.items * sz.bytes

end Sys2Proof.Machine
end

