-- ==== Sys2Proof/Tests/Slice0.lean ====
section
/-! SUPPORT. Tests, each with its source in the spec, and for every statement with hypotheses a concrete state that
meets them. -/

namespace Sys2Proof.Tests

open Sys2Proof.Machine

/-! ### Well-formedness: each check refuses an ill-formed term -/

theorem test_iretq_illFormed_bits16 : (Instr.iretq 0).wellFormed .bits16 = false := by decide
theorem test_iretq_illFormed_bits32 : (Instr.iretq 7).wellFormed .bits32 = false := by decide
theorem test_iretq_wellFormed_mode64 : (Instr.iretq 7).wellFormed .mode64 = true := by decide

/-! ### Decoding words written out from 30_encoding.md R91 to R96 (V8) -/

theorem test_decode_cpuid : decode .bits16 [0b00001111, 0b10100010] = .ok (.cpuid, []) := by decide
theorem test_decode_iret : decode .bits16 [0b11001111] = .ok (.iret, []) := by decide
theorem test_decode_iretd : decode .bits32 [0b11001111] = .ok (.iretd, []) := by decide
theorem test_decode_iret_66 : decode .mode64 [0x66, 0xCF] = .ok (.iret, []) := by decide
theorem test_decode_iretq : decode .mode64 [0b01001000, 0b11001111] = .ok (.iretq 0, []) := by decide
theorem test_decode_iretq_rxb : decode .mode64 [0x4F, 0xCF, 0x90] = .ok (.iretq 7, [0x90]) := by decide
theorem test_decode_lock_cpuid : decode .bits32 [0b11110000, 0x0F, 0xA2] = .ok (.lockCpuid, []) := by decide
theorem test_decode_lock_iret : decode .bits16 [0xF0, 0xCF] = .ok (.lockIretIretd, []) := by decide
theorem test_decode_lock_iretq : decode .bits16 [0xF0, 0x48, 0xCF] = .ok (.lockIretq 0, []) := by decide
theorem test_decode_undescribed : decode .bits16 [0x0F, 0xA3] = .error .notDescribed ∧
    decode .bits16 [0xCE] = .error .notDescribed ∧ decode .mode64 [0x66, 0x0F, 0xA2] = .error .notDescribed := by decide
theorem test_decode_rexW_notEncodable : decode .bits32 [0x48, 0xCF] = .error .notEncodable := by decide
/-- The words of spec/opcode_table.json, as the table numbers their bits. -/
theorem test_decodeTableWord : decodeTableWord 16 0x0FA2 = some .cpuid ∧ decodeTableWord 8 0xCF = some .iret ∧
    decodeTableWord 16 0x4FCF = some (.iretq 7) ∧ decodeTableWord 24 0xF00FA2 = some .lockCpuid ∧
    decodeTableWord 16 0xF0CF = some .lockIretIretd ∧ decodeTableWord 24 0xF048CF = some (.lockIretq 0) ∧
    decodeTableWord 16 0xA20F = some .cpuid := by decide

/-! ### Small states -/

/-- The next state of an outcome. -/
def nextOf (o : Host.Outcome State Fault Refusal) : Option State :=
  match o with
  | .next t => some t
  | .fault _ => none
  | .refused _ => none

/-- The fault of an outcome. -/
def faultOf (o : Host.Outcome State Fault Refusal) : Option Fault :=
  match o with
  | .next _ => none
  | .fault f => some f
  | .refused _ => none

/-- The refusal of an outcome. -/
def refusalOf (o : Host.Outcome State Fault Refusal) : Option Refusal :=
  match o with
  | .next _ => none
  | .fault _ => none
  | .refused r => some r

theorem next_of_isSome {o : Host.Outcome State Fault Refusal} (h : (nextOf o).isSome = true) : ∃ t, o = .next t := by
  cases o with
  | next t => exact ⟨t, rfl⟩
  | fault f => cases h
  | refused r => cases h

/-- Bytes in memory from an address on, in canonical form. -/
def cells (a : Nat) : List Nat → Memory
  | [] => []
  | b :: bs => if b % 256 = 0 then cells (a + 1) bs else (a, BitVec.ofNat 8 b) :: cells (a + 1) bs

/-- The bytes of values of `n` bytes each, little-endian. -/
def valueBytes (n : Nat) (vs : List Nat) : List Nat :=
  vs.flatMap fun v => (List.range n).map fun k => v / 256 ^ k % 256

/-- A state in real-address mode with a 16-bit stack at SS base 0. -/
def realState (sp : Nat) (mem : Memory) (eflags : Dword) : State :=
  { State.reset with gpr := { State.reset.gpr with rsp := BitVec.ofNat 64 sp }, mem := mem, eflags := eflags }

def codeSeg (dpl : BitVec 2) (long : Bool) : Descriptor :=
  { kind := .code false, dpl := dpl, present := true, base := 0, limit := 0xFFFFFFFF, db := !long, long := long }

def dataSeg (dpl : BitVec 2) : Descriptor :=
  { kind := .data true, dpl := dpl, present := true, base := 0, limit := 0xFFFFFFFF, db := true, long := false }

/-- A GDT at 2000H: 0008H code and 0010H 64-bit code of DPL 0, 0018H code and 0020H, 0028H data of DPL 3, 0030H 64-bit
code of DPL 3. -/
def gdt : List TableEntry :=
  [⟨0x2000, default⟩, ⟨0x2008, codeSeg 0 false⟩, ⟨0x2010, codeSeg 0 true⟩, ⟨0x2018, codeSeg 3 false⟩,
   ⟨0x2020, dataSeg 3⟩, ⟨0x2028, dataSeg 3⟩, ⟨0x2030, codeSeg 3 true⟩]

/-- Protected mode at CPL 0, flat 32-bit segments, dwords at the top of the stack. -/
def protState (esp : Nat) (frame : List Nat) : State :=
  { State.reset with
    cr := { resetControl with pe := true }
    cs := { sel := 0x0008, hidden := codeSeg 0 false }
    ss := { sel := 0x0038, hidden := dataSeg 0 }
    ds := { sel := 0x0038, hidden := dataSeg 0 }
    es := { sel := 0x0023, hidden := dataSeg 3 }
    tables := { gdt := gdt, ldt := [], tr := 0, tssLink := 0 }
    gpr := { State.reset.gpr with rsp := BitVec.ofNat 64 esp }
    mem := cells esp (valueBytes 4 frame) }

/-- Virtual-8086 mode with a given IOPL. -/
def v86State (sp iopl : Nat) (mem : Memory) : State :=
  { realState sp mem (0x00020000 ||| BitVec.ofNat 32 (iopl * 4096)) with
    cr := { resetControl with pe := true }, cpl := 3 }

/-- 64-bit mode at CPL 0, qwords at the top of the stack. -/
def longState (rsp : Nat) (frame : List Nat) : State :=
  { protState rsp [] with
    msr := { resetMsrs with lma := true }
    cs := { sel := 0x0010, hidden := codeSeg 0 true }
    ds := { sel := 0, hidden := dataSeg 0 }
    es := { sel := 0, hidden := dataSeg 0 }
    mem := cells rsp (valueBytes 8 frame) }

/-- A state about to execute CPUID with inputs EAX and ECX. -/
def cpuidState (a c : Nat) : State :=
  { State.reset with gpr := { State.reset.gpr with rax := BitVec.ofNat 64 a, rcx := BitVec.ofNat 64 c } }

/-! ### CPUID on the reference configuration K (95_test_vectors.md V1 to V7) -/

def dynK : Dyn := { initialApicId := 5, x2apicId := 5, osxsave := false, xcr0 := 0, xss := 0, platformDcaCap := 0 }

/-- V1.1, V1.3, V1.6: leaf 0, above the maximum with ECX honoured, the first extended leaf. -/
theorem test_leafSelection :
    cpuidAnswer referenceConfig dynK 0 9 = ⟨0x0B, 0x756E6547, 0x6C65746E, 0x49656E69⟩ ∧
    cpuidAnswer referenceConfig dynK 0x0C 1 = ⟨4, 8, 0x201, 5⟩ ∧
    cpuidAnswer referenceConfig dynK 0x80000000 0 = ⟨0x80000008, 0, 0, 0⟩ := by decide
/-- V5.1, V5.3, V5.4; ECX[31:16] of an invalid level is reserved, so not compared. -/
theorem test_topologyLeaf : cpuidAnswer referenceConfig dynK 0x0B 0 = ⟨1, 2, 0x100, 5⟩ ∧
    (cpuidAnswer referenceConfig dynK 0x0B 0x6C65746E).edx = 5 ∧
    (cpuidAnswer referenceConfig dynK 0x0B 0x6C65746E).eax = 0 := by decide
/-- V4.4, V7.4, V7.6. -/
theorem test_leaves : cpuidAnswer referenceConfig dynK 4 1 = Quad.zero ∧
    cpuidAnswer referenceConfig dynK 0x80000006 0 = ⟨0, 0, 0x01006040, 0⟩ ∧
    cpuidAnswer referenceConfig dynK 0x80000008 0 = ⟨0x3024, 0, 0, 0⟩ := by decide

/-- The configuration K2 of V6, with sizes for XCR0 = 3: x87 and SSE take the first 240H bytes, since AVX is at
offset 240H. -/
def configK2 : CpuidConfig :=
  { referenceConfig with
    maxBasic := 0x0D
    xsaveSizes := [⟨3, 0x240⟩]
    xsaveCompactSizes := [⟨3, 0x240⟩]
    rows := referenceRows ++ [⟨0x0D, 0, ⟨7, 0, 0x340, 0⟩⟩, ⟨0x0D, 1, ⟨1, 0, 0, 0⟩⟩, ⟨0x0D, 2, ⟨0x100, 0x240, 0, 0⟩⟩] }

/-- V6.1, V6.3, V6.4, V6.5. -/
theorem test_xsaveLeaf : cpuidAnswer configK2 { dynK with xcr0 := 7 } 0x0D 0 = ⟨7, 0x340, 0x340, 0⟩ ∧
    cpuidAnswer configK2 dynK 0x0D 2 = ⟨0x100, 0x240, 0, 0⟩ ∧ cpuidAnswer configK2 dynK 0x0D 3 = Quad.zero ∧
    cpuidAnswer configK2 dynK 0x0D 0xFFFFFFFF = Quad.zero := by decide

/-- V6.2 with the recorded size. -/
theorem test_xsaveSize : (cpuidAnswer configK2 { dynK with xcr0 := 3 } 0x0D 0).ebx = 0x240 ∧
    cpuidAnswer configK2 { dynK with xcr0 := 3 } 0x0D 1 = ⟨1, 0x240, 0, 0⟩ := by decide

/-- P1: the four registers, with RAX[63:32] ignored and cleared. -/
theorem test_cpuid_registers :
    (nextOf (exec .cpuid (cpuidState 0xFFFFFFFF80000008 0))).map (fun t => (t.gpr.rax, t.gpr.rdx, t.rip))
      = some (0x3024, 0, 0xFFF2) := by decide
/-- P1: the upper half of IA32_BIOS_SIGN_ID. -/
theorem test_cpuid_signature :
    (nextOf (exec .cpuid (cpuidState 0 0))).map (fun t => t.msr.biosSignId)
      = some (0x0000001A#32 ++ Config.freeMsrLow 0) := by rfl
/-- P4: LOCK CPUID. -/
theorem test_lock_cpuid : faultOf (exec .lockCpuid (cpuidState 0 0)) = some .ud := by decide
theorem test_lock_iret : faultOf (exec .lockIretIretd (realState 0 [] 0)) = some .ud := by decide
theorem test_lock_iretq : faultOf (exec (.lockIretq 0) (longState 0 [])) = some .ud := by decide

/-! ### IRET in real-address mode (V9) -/

/-- V9.1. -/
theorem test_iret_real :
    (nextOf (exec .iret (realState 0x0FFA (cells 0x0FFA [0x34, 0x12, 0x00, 0x20, 0x02, 0x02]) 0))).map
      (fun t => (t.rip, t.cs.sel, t.eflags, t.gpr.rsp)) = some (0x1234, 0x2000, 0x200, 0x1000) := by decide
/-- V9.2. -/
theorem test_iretd_real :
    (nextOf (exec .iretd (realState 0x0FF4
      (cells 0x0FF4 [0x78, 0x56, 0, 0, 0x00, 0x30, 0xAD, 0xDE, 0xD7, 0x0F, 0x3F, 0x00]) 0x00080000))).map
      (fun t => (t.rip, t.cs.sel, t.eflags, t.gpr.rsp)) = some (0x5678, 0x3000, 0x002D0FD5, 0x1000) := by decide
/-- V9.3 and V9.4. -/
theorem test_iretd_real_faults :
    faultOf (exec .iretd (realState 0x0FF4 (cells 0x0FF4 [0, 0, 1, 0]) 0)) = some (.gp .none) ∧
    faultOf (exec .iret (realState 0xFFFE [] 0)) = some (.ss .none) := by decide

/-! ### IRET in protected and virtual-8086 mode (V11) -/

/-- V11.1. -/
theorem test_iretd_same_level :
    (nextOf (exec .iretd (protState 0xFFF4 [0x00401000, 0x08, 0x00203202]))).map
      (fun t => (t.rip, t.cs.sel, t.eflags, t.gpr.rsp, t.cpl)) = some (0x401000, 0x08, 0x00203200, 0x10000, 0) := by
  decide
/-- V11.2; the upper half of RSP is free. -/
theorem test_iretd_outer_level :
    (nextOf (exec .iretd (protState 0xFFEC [0x1000, 0x1B, 0x202, 0x7FFF0, 0x23]))).map
      (fun t => (t.rip, t.eflags, t.ss.sel, t.cpl, t.ds.sel, t.es.sel)) = some (0x1000, 0x200, 0x23, 3, 0, 0x23) := by
  decide
/-- V11.3, V11.4 and V11.9. -/
theorem test_iretd_selector_faults :
    faultOf (exec .iretd (protState 0xFFEC [0x1000, 0x1B, 0x202, 0x7FFF0, 0x20])) = some (.gp (.selector 0x20)) ∧
    faultOf (exec .iretd (protState 0xFFEC [0x1000, 0x03, 0x202, 0x7FFF0, 0x23])) = some (.gp .zero) ∧
    faultOf (exec .iretd (protState 0xFFEC [0x1000, 0x1B, 0x202, 0x7FFF0, 0x03])) = some (.gp .zero) := by decide
/-- V11.12 and V11.13. -/
theorem test_iret_v86 :
    (nextOf (exec .iret (v86State 0x0FFA 3 (cells 0x0FFA [0x00, 0x01, 0x00, 0x30, 0xFF, 0xFF])))).map
      (fun t => (t.rip, t.cs.hidden.base, t.eflags, t.gpr.rsp)) = some (0x100, 0x30000, 0x00027FD5, 0x1000) ∧
    faultOf (exec .iret (v86State 0x0FFA 2 [])) = some (.gp .zero) := by decide
/-- V11.14. -/
theorem test_iretd_to_v86 :
    (nextOf (exec .iretd (protState 0xFFDC
      [0x00012345, 0x1000, 0x00023202, 0xFFFE, 0x2000, 0x3000, 0x4000, 0x5000, 0x6000]))).map
      (fun t => (t.rip, t.eflags, t.cpl, t.ss.sel, t.es.sel, t.ds.sel, t.fs.sel, t.gs.sel)) =
      some (0x2345, 0x00023200, 3, 0x2000, 0x3000, 0x4000, 0x5000, 0x6000) := by decide

/-! ### IRETQ (V12) -/

def userFrame : List Nat := [0x400000, 0x33, 0x202, 0x00007FFFFFFFE000, 0x2B]

/-- V12.1. -/
theorem test_iretq_outer_level :
    (nextOf (exec (.iretq 0) (longState 0x8FFD8 userFrame))).map
      (fun t => (t.rip, t.cs.sel, t.cpl, t.eflags, t.ss.sel, t.gpr.rsp)) =
      some (0x400000, 0x33, 3, 0x200, 0x2B, 0x00007FFFFFFFE000) := by decide
/-- V12.4. -/
theorem test_iretq_null_ss :
    (nextOf (exec (.iretq 7) (longState 0x8FFD8 [0x400000, 0x10, 0x202, 0x5000, 0]))).map
      (fun t => (t.rip, t.cpl, t.ss.sel, t.gpr.rsp)) = some (0x400000, 0, 0, 0x5000) := by decide
/-- V12.2, V12.5 and V12.7. -/
theorem test_iretq_faults :
    faultOf (exec (.iretq 0) (longState 0x8FFD8 [0x0000800000000000, 0x33, 0x202, 0x5000, 0x2B])) = some (.gp .zero) ∧
    faultOf (exec (.iretq 0) (longState 0x8FFD8 [0x400000, 0x10, 0x202, 0x5000, 1])) = some (.gp .zero) ∧
    faultOf (exec (.iretq 0) (longState 0x00007FFFFFFFFFF8 [])) = some (.ss .zero) := by decide
/-- V12.9. -/
theorem test_iretd_in_bits64_refused :
    refusalOf (exec .iretd (longState 0x8FFD8 [0x0000001000400000, 0x202])) = some .sameLevelIn64Bit := by decide

/-! ### Memory, the step, and what software reads -/

/-- V13.1 and V13.2. -/
theorem test_memRead : memRead (realState 0 (cells 0x1000 [0x78, 0x56, 0x34, 0x12]) 0) 0x1000 4 = 0x12345678 ∧
    memRead (realState 0 (cells 0x1000 [0x78, 0x56, 0x34, 0x12]) 0) 0x1000 2 = 0x5678 := by decide
/-- V13.4: the upper half of ESP is untouched. -/
theorem test_pop_wraps : rspAfterPop (realState 0xABCDFFFE [] 0) 2 = 0xABCD0000 := by decide
/-- The first instruction after reset. -/
theorem test_step_from_reset : (nextOf (step (State.reset.withFetchWord 16 0x0FA2))).map (fun t => t.rip)
    = some 0xFFF2 := by decide
theorem test_step_lock : faultOf (step (State.reset.withFetchWord 24 0xF048CF)) = some .ud := by decide
/-- 44_cpuid_identification.md R283. -/
theorem test_displayFamily : (displayFamily 0x00100F42, displayModel 0x00100F42) = (0x10, 4) ∧
    (displayFamily 0x000106A5, displayModel 0x000106A5) = (6, 0x1A) ∧
    (displayFamily 0x00010521, displayModel 0x00010521) = (5, 2) := by decide
/-- V4.1 and V4.3. -/
theorem test_cacheBytes : cacheBytes ⟨0, 0x01C0003F, 0x3F, 0⟩ = 32768 ∧
    cacheBytes ⟨0, 0xFFFFFFFF, 0xFFFFFFFF, 0⟩ = 2 ^ 64 := by decide
/-- 41_cpuid_basic_leaves.md R162. -/
theorem test_idCount : [1, 2, 3, 16, 17].map idCount = [1, 2, 4, 16, 32] := by decide
/-- 41_cpuid_basic_leaves.md R162: a number where HTT = 1 and the field is not 0. -/
theorem test_packageApicIds : packageApicIds ⟨0, 0x00110000, 0, 0x10000000⟩ = some 32 ∧
    packageApicIds ⟨0, 0, 0, 0x10000000⟩ = none ∧ packageApicIds ⟨0, 0x00110000, 0, 0⟩ = none := by decide
/-- 41_cpuid_basic_leaves.md R181 and R203, on K's leaf 04H and leaf 0BH (V4, V5). -/
theorem test_types : (cacheType (cpuidAnswer referenceConfig dynK 4 0), cacheLevel (cpuidAnswer referenceConfig dynK 4 0))
    = (.data, 1) ∧ levelType (cpuidAnswer referenceConfig dynK 0x0B 0) = .smt ∧
    levelType (cpuidAnswer referenceConfig dynK 0x0B 1) = .core ∧
    levelType ⟨0, 0, 0x12, 5⟩ = .invalid := by decide
/-- 42_cpuid_leaf2_descriptors.md R236: 40H with and without a 2nd-level cache, 49H on a Xeon MP and elsewhere. -/
theorem test_interpretLeaf02 :
    interpretLeaf02 0x000106A5 ⟨0x00007A01, 0, 0, 0x40⟩ = [.cache ⟨.second, 256, 8, 64, true⟩, .absent .third] ∧
    interpretLeaf02 0x000106A5 ⟨0x00000001, 0, 0, 0x40⟩ = [.absent .second] ∧
    interpretLeaf02 0x00000F64 ⟨0x00004901, 0, 0, 0x40⟩ = [.cache ⟨.third, 4096, 16, 64, false⟩, .absent .second] ∧
    interpretLeaf02 0x000006F6 ⟨0x00004901, 0, 0, 0x40⟩ = [.cache ⟨.second, 4096, 16, 64, false⟩, .absent .third] := by
  decide
/-- 44_cpuid_identification.md R290: not from family 0FH, model 03H on, extended fields included. -/
theorem test_brandIndexSupported :
    ([0x00000F29, 0x00000F34, 0x00010F02, 0x00100F12].map fun v => brandIndexSupported ⟨v, 0x09, 0, 0⟩)
      = [true, false, false, false] := by decide
/-- 44_cpuid_identification.md R291: a note, an exception, the reserved row, an index of no row. -/
theorem test_brandIndexMeaning :
    brandIndexMeaning 0x07 0 = .brand "Mobile Intel(R) Celeron(R) processor" true ∧
    brandIndexMeaning 0x0E 0x00000F13 = .brand "Intel(R) Xeon(R) processor" false ∧
    brandIndexMeaning 0x18 0 = .reserved ∧ brandIndexMeaning 0xFF 0 = .reserved ∧
    brandIndexMeaning 0x10 0 = .notListed := by decide
/-- K2's sub-leaf 1 EAX is 00000001H: XSAVEOPT, not XSAVEC (41_cpuid_basic_leaves.md R211). -/
theorem test_featureConfirmed :
    featureConfirmed (cpuidAnswer configK2 { dynK with xcr0 := 7 }) 0x0D "XSAVEOPT" = true ∧
    featureConfirmed (cpuidAnswer configK2 { dynK with xcr0 := 7 }) 0x0D "XSAVEC" = false ∧
    featureConfirmed (cpuidAnswer configK2 { dynK with xcr0 := 7 }) 0x0D "XCR0: 256-bit AVX" = true := by decide +kernel
/-- 70_reset_and_hazards.md R416: ResIDs 1 and 3 of a mask whose bits 0 and 2 do not count; K2's component 2. -/
theorem test_enumerateMasked :
    (enumerateMonitoring fun _ c => ⟨0, 0, c, 0x0000000B⟩).map (fun (i, q) => (i, q.ecx)) = [(1, 1), (3, 3)] ∧
    (enumerateEnforcement fun _ c => ⟨0, 0x80000000, c, 0⟩).map (fun (i, q) => (i, q.ecx)) = [(31, 31)] ∧
    enumerateXsaveSubleaves (cpuidAnswer configK2 dynK) = [(2, ⟨0x100, 0x240, 0, 0⟩)] := by decide +kernel
/-- 44_cpuid_identification.md R294 step 3: leaf 0BH with EBX[15:0] = 0 is not supported. -/
theorem test_supportedLeaf0B :
    supportedLeaf (fun a _ => if a = 0 then ⟨0x0B, 0, 0, 0⟩ else ⟨0, 0x00010000, 0, 5⟩) 0x0B 0 = none ∧
    (supportedLeaf (cpuidAnswer referenceConfig dynK) 0x0B 0).isSome = true := by decide
/-- Example 3-1 (42_cpuid_leaf2_descriptors.md R237). -/
theorem test_leaf02Descriptors :
    leaf02Descriptors ⟨0x665B5001, 0, 0, 0x007A7000⟩ = [0x50, 0x5B, 0x66, 0x70, 0x7A] := by decide
/-- Table 3-23 ends in "1500MHz" (43_cpuid_extended_leaves.md R262). -/
theorem test_brandString :
    (brandString (cpuidAnswer referenceConfig dynK)).drop 40 = [0x31, 0x35, 0x30, 0x30, 0x4D, 0x48, 0x7A] := by decide
/-- The rows of the field table tile their registers. -/
theorem test_leafFields_tiled : tiled none leafFields = true := by decide +kernel

/-! ### The reference configuration and the frames -/

/-- K meets the constraints of 00_scope.md R6. -/
theorem test_referenceConfig_good : GoodConfig referenceConfig := by
  refine ⟨by decide, by decide, by decide, rfl, by decide, by decide, by decide, by decide, by decide, by decide⟩

/-- The frame sizes of 60_exceptions.md R391. -/
theorem test_frameBytes : FrameShape.sameLevel.bytes .w16 = 6 ∧ FrameShape.outerLevel.bytes .w64 = 40 ∧
    FrameShape.toVirtual8086.bytes .w32 = 36 := by decide

/-! ### Witnesses: states and operands that meet the hypotheses of the statements

`witness_X` is for `Obligations.X`; where a statement has clauses, each has a witness. -/

theorem witness_DecodeOfEncodeIsIdentity : (Instr.iretq 5).wellFormed .mode64 = true := by decide
theorem witness_DecodeTakesOneInstruction :
    decode .mode64 [0xF0, 0x66, 0x48, 0xCF, 0x0F] = .ok (.lockIretq 0, [0x0F]) := by decide
theorem witness_StepRunsTheDecodedInstruction :
    decode (codeSizeOf (State.reset.withFetchWord 16 0x0FA2))
      (fetchBytes (State.reset.withFetchWord 16 0x0FA2) maxInstrBytes 0) = .ok (.cpuid, [0, 0]) ∧
    Instr.cpuid.wellFormed (codeSizeOf (State.reset.withFetchWord 16 0x0FA2)) = true := by decide
theorem witness_StepRefusesUndescribedBytes :
    fetchBytes State.reset maxInstrBytes 0 = [0, 0, 0, 0] ∧
    decode (codeSizeOf State.reset) [0, 0, 0, 0] = .error .notDescribed ∧ isRexW 0 = false := by decide

/-- At the last instruction pointer the statement admits in 16-bit code, and the last in 64-bit mode. -/
theorem witness_CpuidCompletesWithSelectedLeaf :
    (let s := { State.reset with rip := 0xFFFD }
     s.cfg.cpuidSupported = true ∧ s.plat.vmxNonRoot = false ∧ s.msr.miscEnable.getLsbD 22 = false ∧
     (selectLeaf s.cfg (s.gpr.rax.setWidth 32) = 2 → leaf02Repeats s.cfg = false) ∧
     (if modeOf s = .bits64 then s.rip.toNat + 2 < 2 ^ 64 else s.rip.toNat + 2 ≤ s.cs.hidden.limit.toNat)) ∧
    (let s := { longState 0 [] with rip := 0xFFFFFFFFFFFFFFFD }
     s.cfg.cpuidSupported = true ∧ s.plat.vmxNonRoot = false ∧ s.msr.miscEnable.getLsbD 22 = false ∧
     (selectLeaf s.cfg (s.gpr.rax.setWidth 32) = 2 → leaf02Repeats s.cfg = false) ∧
     (if modeOf s = .bits64 then s.rip.toNat + 2 < 2 ^ 64 else s.rip.toNat + 2 ≤ s.cs.hidden.limit.toNat)) := by
  decide

/-- A part that is no Intel 64 processor and has no microcode update facility. -/
def plainPart : CpuidConfig := { referenceConfig with intel64 := false, microcodeFacility := false }

theorem witness_CpuidWritesAllFourRegisters :
    (∃ t, exec .cpuid State.reset = .next t ∧ State.reset.cfg.intel64 = true) ∧
    (∃ t, exec .cpuid { State.reset with cfg := plainPart } = .next t ∧ plainPart.intel64 = false) :=
  ⟨(next_of_isSome (by decide)).imp fun _ h => ⟨h, rfl⟩, (next_of_isSome (by decide)).imp fun _ h => ⟨h, rfl⟩⟩
theorem witness_CpuidLoadsUpdateSignature :
    (∃ t, exec .cpuid State.reset = .next t ∧ State.reset.cfg.microcodeFacility = true) ∧
    (∃ t, exec .cpuid { State.reset with cfg := plainPart } = .next t ∧ plainPart.microcodeFacility = false) :=
  ⟨(next_of_isSome (by decide)).imp fun _ h => ⟨h, rfl⟩, (next_of_isSome (by decide)).imp fun _ h => ⟨h, rfl⟩⟩

/-- A state on a part without CPUID. -/
def noCpuid : State := { State.reset with cfg := { referenceConfig with cpuidSupported := false } }

theorem witness_CpuidRaisesOnlyInvalidOpcode :
    noCpuid.cfg.cpuidSupported = false ∧ exec .cpuid noCpuid = .fault .ud := ⟨rfl, rfl⟩
theorem witness_CpuidFrame : ∃ t, exec .cpuid State.reset = .next t := next_of_isSome (by decide)
theorem witness_CpuidDependsOnlyOnItsInputs :
    State.reset.cfg = (realState 0x1234 [] 0x200).cfg ∧ dynOf State.reset = dynOf (realState 0x1234 [] 0x200) ∧
    State.reset.gpr.rax.setWidth 32 = (realState 0x1234 [] 0x200).gpr.rax.setWidth 32 ∧
    (∃ t, exec .cpuid State.reset = .next t) ∧ ∃ t, exec .cpuid (realState 0x1234 [] 0x200) = .next t :=
  ⟨rfl, rfl, rfl, next_of_isSome (by decide), next_of_isSome (by decide)⟩

/-- A part whose leaf 02H asks for two executions. -/
def twiceLeaf02 : CpuidConfig := { referenceConfig with rows := [⟨0x02, 0, ⟨0x00000002, 0, 0, 0⟩⟩] }

theorem witness_CpuidRefusalsOfTheSpec :
    ({ State.reset.plat with vmxNonRoot := true } : Platform).vmxNonRoot = true ∧
    ({ resetMsrs with miscEnable := 0x00400000 } : Msrs).miscEnable.getLsbD 22 = true ∧
    leaf02Repeats twiceLeaf02 = true ∧ selectLeaf twiceLeaf02 ((cpuidState 2 0).gpr.rax.setWidth 32) = 2 := by decide

/-- Each clause at the ends of its range: 0BH, 80000000H, 80000008H, 0CH, 7FFFFFFFH, 80000009H, and 80000000H on a part
without extended leaves. -/
theorem witness_LeafSelectionRule :
    (0x0B#32).toNat ≤ referenceConfig.maxBasic.toNat ∧ referenceConfig.extImplemented = true ∧
    0x80000000 ≤ (0x80000000#32).toNat ∧ (0x80000008#32).toNat ≤ referenceConfig.maxExt.toNat ∧
    referenceConfig.maxBasic.toNat < (0x0C#32).toNat ∧ (0x7FFFFFFF#32).toNat < 0x80000000 ∧
    referenceConfig.maxExt.toNat < (0x80000009#32).toNat ∧
    ({ referenceConfig with extImplemented := false } : CpuidConfig).extImplemented = false := by decide
theorem witness_CoreI7LeafSelectionExamples :
    referenceConfig.maxBasic = 0x0B ∧ referenceConfig.extImplemented = true ∧ referenceConfig.maxExt = 0x80000008 ∧
    ∀ r ∈ referenceConfig.rows, r.leaf ≠ 0x07 := by decide
theorem witness_UnsupportedLeafAnswersZeros :
    (5 : Dword) ≠ 0 ∧ (5 : Dword) ≠ 0x80000000 ∧ ∀ r ∈ referenceConfig.rows, r.leaf ≠ 5 := by decide
theorem witness_ReservedLeavesAnswerZeros :
    8 ≤ referenceConfig.maxBasic.toNat ∧ referenceConfig.maxBasic = 0x0B ∧ 0x0C ≤ configK2.maxBasic.toNat ∧
    0x0E ≤ ({ configK2 with maxBasic := 0x0E } : CpuidConfig).maxBasic.toNat ∧
    referenceConfig.extImplemented = true ∧ 0x80000005 ≤ referenceConfig.maxExt.toNat := by decide
theorem witness_VendorStringPacking : referenceConfig.vendor = genuineIntel ∧ (0 < 12 ∧ 11 < 12) := by decide
theorem witness_VersionLeafDynamicBits :
    1 ≤ referenceConfig.maxBasic.toNat ∧ (rowOf referenceConfig 1 0).isSome = true := by decide
/-- Both clauses, at the last valid and the first invalid index. -/
theorem witness_CacheLeafIndexes :
    4 ≤ referenceConfig.maxBasic.toNat ∧ (0#32).toNat < leaf04Count referenceConfig ∧
    leaf04Count referenceConfig ≤ (1#32).toNat := by decide
theorem witness_TopologyLeafLevels :
    0x0B ≤ referenceConfig.maxBasic.toNat ∧ (rowOf referenceConfig 0x0B 0).isSome = true ∧
    (1#32).toNat < leaf0BLevels referenceConfig ∧ leaf0BLevels referenceConfig ≤ (2#32).toNat := by decide
theorem witness_XsaveLeafInvalidSubleafAnswersZeros :
    0x0D ≤ configK2.maxBasic.toNat ∧ 2 ≤ (3#32).toNat ∧
    ((cpuidAnswer configK2 dynK 0x0D 0).edx ++ (cpuidAnswer configK2 dynK 0x0D 0).eax : BitVec 64).getLsbD 3 = false ∧
    ((cpuidAnswer configK2 dynK 0x0D 1).edx ++ (cpuidAnswer configK2 dynK 0x0D 1).ecx : BitVec 64).getLsbD 3 = false :=
  by decide
theorem witness_XsaveAreaSizeIsBounded :
    0x0D ≤ configK2.maxBasic.toNat ∧
    ∀ i, ((cpuidAnswer configK2 dynK 0x0D 0).edx ++ (cpuidAnswer configK2 dynK 0x0D 0).eax : BitVec 64).getLsbD i = true →
      ({ dynK with xcr0 := 0xFFFFFFFFFFFFFFFF } : Dyn).xcr0.getLsbD i = true := by
  refine ⟨by decide, fun i h => ?_⟩
  have hi : i < 64 := BitVec.lt_of_getLsbD h
  show (BitVec.allOnes 64).getLsbD i = true
  rw [BitVec.getLsbD_allOnes]
  exact decide_eq_true hi
theorem witness_ReservedZeroFieldsReadZero :
    (⟨0x80000001, .any, .edx, 19, 12, .reservedZero, ""⟩ : FieldRow) ∈ leafFields := by decide +kernel
theorem witness_SubleafMattersInSixLeaves :
    (0x11 : Dword) ≠ 0x04 ∧ (0x11 : Dword) ≠ 0x07 ∧ (0x11 : Dword) ≠ 0x0B ∧ (0x11 : Dword) ≠ 0x0D ∧
    (0x11 : Dword) ≠ 0x0F ∧ (0x11 : Dword) ≠ 0x10 := by decide

/-- V9.1's state, and one with the frame ending at the stack limit. -/
def real16 : State := realState 0x0FFA (cells 0x0FFA [0x34, 0x12, 0x00, 0x20, 0x02, 0x02]) 0
def real16Top : State := realState 0xFFFA (cells 0xFFFA [0xFF, 0xFF, 0x00, 0x20, 0x02, 0x02]) 0

theorem witness_RealModeIretCompletes :
    modeOf real16Top = .realAddress ∧ real16Top.plat.vmxNonRoot = false ∧ withinStackLimits real16Top 0 6 = true ∧
    frameTouchesApic real16Top .w16 0 3 = false ∧ (frameIp real16Top .w16).toNat = real16Top.cs.hidden.limit.toNat := by
  decide

def real32 : State := realState 0x0FF4 (cells 0x0FF4 [0xFF, 0xFF, 0, 0, 0x00, 0x30, 0xAD, 0xDE, 0xD7, 0x0F, 0x3F, 0x00]) 0

theorem witness_RealModeIretdCompletes :
    modeOf real32 = .realAddress ∧ real32.plat.vmxNonRoot = false ∧ real32.cfg.cpuidSupported = true ∧
    withinStackLimits real32 0 12 = true ∧ frameTouchesApic real32 .w32 0 3 = false ∧
    (frameIp real32 .w32).toNat ≤ real32.cs.hidden.limit.toNat ∧ (frameIp real32 .w32).toNat < 2 ^ 16 := by decide
/-- A part with a local APIC, whose window begins above item 0 of a 12-byte frame; EIP is 00010000H. -/
def realBesideApic : State :=
  let s := realState 0x0FFC (cells 0x0FFC [0, 0, 1, 0]) 0
  { s with
    cfg := { referenceConfig with rows := ⟨0x01, 0, ⟨0x000106A5, 0x05100800, 0, 0x10080220⟩⟩ :: referenceRows }
    plat := { s.plat with apicBase := some 0x1000 } }

/-- The #GP clause where items 1 and 2 lie in the APIC window: the test comes before their pops. -/
theorem witness_RealModeReturnExceptions_apic :
    modeOf realBesideApic = .realAddress ∧ realBesideApic.plat.vmxNonRoot = false ∧
    withinStackLimits realBesideApic 0 (3 * OpSize.bytes .w32) = true ∧
    touchesApic realBesideApic (stackLinear realBesideApic 0) (OpSize.bytes .w32) = false ∧
    frameTouchesApic realBesideApic .w32 0 3 = true ∧ 2 ^ 16 ≤ (frameIp realBesideApic .w32).toNat ∧
    faultOf (exec .iretd realBesideApic) = some (.gp .none) := by decide

/-- The #SS clause at the first stack pointer that fails, the #GP clause at EIP 00010000H, the last clause by both. -/
theorem witness_RealModeReturnExceptions :
    modeOf (realState 0xFFFB [] 0) = .realAddress ∧ (realState 0xFFFB [] 0).plat.vmxNonRoot = false ∧
    withinStackLimits (realState 0xFFFB [] 0) 0 (3 * OpSize.bytes .w16) = false ∧
    (let s := realState 0x0FF4 (cells 0x0FF4 [0, 0, 1, 0]) 0
     withinStackLimits s 0 (3 * OpSize.bytes .w32) = true ∧ frameTouchesApic s .w32 0 3 = false ∧
     (s.cs.hidden.limit.toNat < (frameIp s .w32).toNat ∨ 2 ^ 16 ≤ (frameIp s .w32).toNat)) ∧
    faultOf (exec .iret (realState 0xFFFB [] 0)) = some (.ss .none) := by decide

theorem witness_Virtual8086ReturnNeedsIopl3 :
    modeOf (v86State 0x0FFA 2 []) = .virtual8086 ∧ (v86State 0x0FFA 2 []).plat.vmxNonRoot = false ∧
    (v86State 0x0FFA 2 []).cr.vme = false ∧ ioplOf (v86State 0x0FFA 2 []).eflags ≠ 3 := by decide

/-- V11.12's state. -/
def v86Frame : State := v86State 0x0FFA 3 (cells 0x0FFA [0xFF, 0xFF, 0x00, 0x30, 0xFF, 0xFF])

theorem witness_Virtual8086ReturnCompletes :
    modeOf v86Frame = .virtual8086 ∧ v86Frame.plat.vmxNonRoot = false ∧ v86Frame.cr.vme = false ∧
    ioplOf v86Frame.eflags = 3 ∧ FrameOnStack v86Frame .w16 0 3 ∧ FrameReadable v86Frame .w16 0 3 ∧
    (frameIp v86Frame .w16).toNat ≤ v86Frame.cs.hidden.limit.toNat := by
  unfold FrameOnStack FrameReadable; decide

/-- Protected mode with NT = 1, and a TSS descriptor that the link selector 0008H names. -/
def taskState (link : Word) (d : Descriptor) : State :=
  { protState 0xFFF4 [] with
    eflags := 0x4000, tables := { gdt := [⟨0x2000, default⟩, ⟨0x2008, d⟩], ldt := [], tr := 0, tssLink := link } }

def tss (busy present : Bool) : Descriptor :=
  { kind := .tss busy, dpl := 0, present := present, base := 0, limit := 0x67, db := false, long := false }

/-- The link's local bit, its index at the table's length, and the three descriptors of the second clause. -/
theorem witness_TaskReturnChecks :
    modeOf (taskState 0x0C (tss true true)) = .protectedMode ∧ flagOf (taskState 0x0C (tss true true)).eflags .nt = true ∧
    (taskState 0x0C (tss true true)).tables.tssLink.getLsbD 2 = true ∧
    (taskState 0x10 (tss true true)).tables.gdt.length ≤ ((taskState 0x10 (tss true true)).tables.tssLink >>> 3).toNat ∧
    (taskState 0x08 (tss true true)).tables.tssLink.getLsbD 2 = false ∧
    Fetchable (taskState 0x08 (tss false true)) 0x08 (tss false true) ∧
    Fetchable (taskState 0x08 (tss true false)) 0x08 (tss true false) ∧
    Fetchable (taskState 0x08 (tss true true)) 0x08 (tss true true) := by
  unfold Fetchable; decide

theorem witness_NestedTaskFaultsInIa32e :
    modeOf { longState 0 [] with eflags := 0x4000 } = .bits64 ∧ (longState 0 []).plat.vmxNonRoot = false ∧
    flagOf ({ longState 0 [] with eflags := 0x4000 } : State).eflags .nt = true := by decide

/-- V11.16: the stack limit below the frame; V12.7: a frame that reaches a non-canonical address. -/
def shortStack : State :=
  { protState 0xFFF4 [0x00401000, 0x08, 0x202] with ss := { sel := 0x38, hidden := { dataSeg 0 with limit := 0xFFFE } } }

theorem witness_FrameOutsideStackFaults :
    (modeOf shortStack = .protectedMode ∧ shortStack.plat.vmxNonRoot = false ∧ flagOf shortStack.eflags .nt = false ∧
      ¬FrameOnStack shortStack .w32 0 (ia32eItems .w32) ∧ frameFaults shortStack .w32 0 (ia32eItems .w32) = []) ∧
    (modeOf (longState 0x00007FFFFFFFFFF8 []) = .bits64 ∧
      ¬FrameOnStack (longState 0x00007FFFFFFFFFF8 []) .w64 0 (ia32eItems .w64) ∧
      frameFaults (longState 0x00007FFFFFFFFFF8 []) .w64 0 (ia32eItems .w64) = []) := by
  unfold FrameOnStack; decide

/-- A frame in protected mode that reaches the checks. -/
theorem popped_prot (esp : Nat) (frame : List Nat)
    (h : modeOf (protState esp frame) = .protectedMode ∧ stackTest (protState esp frame) .w32 0 3 .zero = [] ∧
      frameFaults (protState esp frame) .w32 0 3 = [] ∧ frameTouchesApic (protState esp frame) .w32 0 3 = false ∧
      flagOf (frameFlags (protState esp frame) .w32) .vm = false) :
    PoppedForChecks (protState esp frame) .iretd .w32 :=
  ⟨rfl, rfl, .inl ⟨.inl h.1, by decide⟩, by show flagOf 0 .nt = false; decide, h.2.1, ⟨h.2.2.1, h.2.2.2.1⟩,
    fun _ _ => h.2.2.2.2⟩

/-- V11.4's boundary, 0003H. -/
theorem witness_NullCodeSelectorFaults :
    PoppedForChecks (protState 0xFFF4 [0x1000, 3, 0x202]) .iretd .w32 ∧
    isNull (frameCs (protState 0xFFF4 [0x1000, 3, 0x202]) .w32) = true :=
  ⟨popped_prot _ _ (by decide), by decide⟩
/-- The first index beyond the table, 7. -/
theorem witness_CodeSelectorBeyondTableFaults :
    PoppedForChecks (protState 0xFFF4 [0x1000, 0x38, 0x202]) .iretd .w32 ∧
    isNull (frameCs (protState 0xFFF4 [0x1000, 0x38, 0x202]) .w32) = false ∧
    tableEntry (protState 0xFFF4 [0x1000, 0x38, 0x202]) 0x38 = none :=
  ⟨popped_prot _ _ (by decide), by decide, by decide⟩

/-- The #GP(0) alternative: IRETQ, a CS selector of index 7, and a NULL SS whose RPL is not that of CS. -/
theorem witness_CodeSelectorBeyondTableFaults_nullSs :
    (let s := longState 0x8FFD8 [0x400000, 0x38, 0x202, 0x5000, 1]
     PoppedForChecks s (.iretq 0) .w64 ∧ isNull (frameCs s .w64) = false ∧ tableEntry s 0x38 = none ∧
       NullSsNeverLegal s .w64) := by
  unfold NullSsNeverLegal
  exact ⟨⟨rfl, rfl, .inr rfl, by show flagOf 0 .nt = false; decide, by unfold FrameOnStack; decide,
    ⟨by decide, by decide⟩, fun h => by cases h⟩, by decide⟩

/-- A state whose frame returns to selector `sel` of descriptor `d` at index 1, executed at `cpl`. -/
def csState (cpl : BitVec 2) (sel : Nat) (d : Descriptor) : State :=
  { protState 0xFFF4 [0x1000, sel, 0x202] with
    cpl := cpl, tables := { gdt := [⟨0x2000, default⟩, ⟨0x2008, d⟩], ldt := [], tr := 0, tssLink := 0 } }

theorem popped_cs (cpl : BitVec 2) (sel : Nat) (d : Descriptor)
    (h : modeOf (csState cpl sel d) = .protectedMode ∧ stackTest (csState cpl sel d) .w32 0 3 .zero = [] ∧
      frameFaults (csState cpl sel d) .w32 0 3 = [] ∧
      frameTouchesApic (csState cpl sel d) .w32 0 3 = false ∧ flagOf (frameFlags (csState cpl sel d) .w32) .vm = false) :
    PoppedForChecks (csState cpl sel d) .iretd .w32 :=
  ⟨rfl, rfl, .inl ⟨.inl h.1, by decide⟩, by show flagOf 0 .nt = false; decide, h.2.1, ⟨h.2.2.1, h.2.2.2.1⟩,
    fun _ _ => h.2.2.2.2⟩

/-- Each clause: a data segment; RPL 0 at CPL 3; conforming of DPL 1 at RPL 0; non-conforming of DPL 3 at RPL 0; absent. -/
theorem witness_CodeSegmentChecksInOrder :
    (PoppedForChecks (csState 0 8 (dataSeg 0)) .iretd .w32 ∧ modeOf (csState 0 8 (dataSeg 0)) = .protectedMode ∧
      isNull (frameCs (csState 0 8 (dataSeg 0)) .w32) = false ∧ Fetchable (csState 0 8 (dataSeg 0)) 8 (dataSeg 0)) ∧
    (PoppedForChecks (csState 3 8 (codeSeg 0 false)) .iretd .w32 ∧
      rplOf (frameCs (csState 3 8 (codeSeg 0 false)) .w32) < (csState 3 8 (codeSeg 0 false)).cpl) ∧
    (let d := { codeSeg 1 false with kind := .code true }
     Fetchable (csState 0 8 d) 8 d ∧ rplOf (frameCs (csState 0 8 d) .w32) < d.dpl) ∧
    (Fetchable (csState 0 8 (codeSeg 3 false)) 8 (codeSeg 3 false) ∧
      (codeSeg 3 false).dpl ≠ rplOf (frameCs (csState 0 8 (codeSeg 3 false)) .w32) ∧
      (codeSeg 3 false).present = true) ∧
    (let d := { codeSeg 0 false with present := false }
     Fetchable (csState 0 8 d) 8 d ∧ d.dpl = rplOf (frameCs (csState 0 8 d) .w32) ∧ d.present = false) := by
  unfold Fetchable
  exact ⟨⟨popped_cs _ _ _ (by decide), by decide⟩, ⟨popped_cs _ _ _ (by decide), by decide⟩, by decide, by decide,
    by decide⟩

/-- V11.2's state, with another SS image. -/
def outer (ss : Nat) : State := protState 0xFFEC [0x1000, 0x1B, 0x202, 0x7FFF0, ss]

theorem goodCode_outer (ss : Nat)
    (h : frameCs (outer ss) .w32 = 0x1B ∧ (outer ss).cpl = 0 ∧ fetchFaults (outer ss) 0x1B = [] ∧
      fetchTouchesApic (outer ss) 0x1B = false ∧ descriptorOf (outer ss) 0x1B = codeSeg 3 false) :
    GoodCodeSegment (outer ss) (frameCs (outer ss) .w32) (codeSeg 3 false) := by
  obtain ⟨h1, h2, h3, h4, h5⟩ := h
  rw [h1]
  exact ⟨by decide, ⟨h3, h4, h5⟩, .inr (by decide), by rw [h2]; decide, rfl, fun h => by cases h⟩

/-- The clauses: NULL 0003H, index 7 beyond the table, RPL 0 against 3, and an absent segment. -/
theorem witness_StackSegmentChecksInOrder :
    (PoppedForChecks (outer 3) .iretd .w32 ∧ GoodCodeSegment (outer 3) (frameCs (outer 3) .w32) (codeSeg 3 false) ∧
      (outer 3).cpl < rplOf (frameCs (outer 3) .w32) ∧ FrameOnStack (outer 3) .w32 3 2 ∧
      FrameReadable (outer 3) .w32 3 2 ∧ isNull (frameSs (outer 3) .w32) = true) ∧
    (PoppedForChecks (outer 0x3B) .iretd .w32 ∧ isNull (frameSs (outer 0x3B) .w32) = false ∧
      tableEntry (outer 0x3B) (frameSs (outer 0x3B) .w32) = none) ∧
    (PoppedForChecks (outer 0x20) .iretd .w32 ∧ Fetchable (outer 0x20) (frameSs (outer 0x20) .w32) (dataSeg 3) ∧
      rplOf (frameSs (outer 0x20) .w32) ≠ rplOf (frameCs (outer 0x20) .w32)) ∧
    (let s := { outer 0x23 with tables := { (outer 0x23).tables with
       gdt := gdt.set 4 ⟨0x2020, { dataSeg 3 with present := false }⟩ } }
     Fetchable s (frameSs s .w32) { dataSeg 3 with present := false } ∧
       rplOf (frameSs s .w32) = rplOf (frameCs s .w32)) := by
  unfold Fetchable FrameOnStack FrameReadable
  exact ⟨⟨popped_prot _ _ (by decide), goodCode_outer _ (by decide), by decide⟩, ⟨popped_prot _ _ (by decide), by decide⟩,
    ⟨popped_prot _ _ (by decide), by decide⟩, by decide⟩

/-- V11.1's state, with another EIP image. -/
def same (ip : Nat) : State := protState 0xFFF4 [ip, 0x08, 0x00203202]

theorem goodCode_same (ip : Nat)
    (h : frameCs (same ip) .w32 = 0x08 ∧ fetchFaults (same ip) 0x08 = [] ∧
      fetchTouchesApic (same ip) 0x08 = false ∧ descriptorOf (same ip) 0x08 = codeSeg 0 false) :
    GoodCodeSegment (same ip) (frameCs (same ip) .w32) (codeSeg 0 false) := by
  obtain ⟨h1, h2, h3, h4⟩ := h
  rw [h1]
  exact ⟨by decide, ⟨h2, h3, h4⟩, .inr (by decide), by show (0 : BitVec 2) ≤ rplOf 8; decide, rfl, fun h => by cases h⟩

/-- A state that returns to a 16-byte code segment, at the first instruction pointer outside it. -/
def badIp : State :=
  { same 0x10 with tables := { (same 0x10).tables with gdt := gdt.set 1 ⟨0x2008, { codeSeg 0 false with limit := 0xF }⟩ } }

theorem witness_BadReturnPointerFaults :
    PoppedForChecks badIp .iretd .w32 ∧ modeOf badIp ≠ .bits64 ∧
    GoodCodeSegment badIp (frameCs badIp .w32) { codeSeg 0 false with limit := 0xF } ∧
    rplOf (frameCs badIp .w32) = badIp.cpl ∧
    ¬GoodReturnIp badIp { codeSeg 0 false with limit := 0xF } (frameIp badIp .w32) := by
  refine ⟨⟨rfl, rfl, .inl ⟨.inl rfl, by decide⟩, rfl, ?_, ⟨by decide, by decide⟩, fun _ _ => by decide⟩, by decide,
    ⟨by decide, ⟨by decide, by decide, by decide⟩, .inr (by decide), by decide, rfl, fun h => by cases h⟩, by decide, ?_⟩
  · show stackTest badIp .w32 0 3 .zero = []
    decide
  · unfold GoodReturnIp; decide

theorem witness_SameLevelReturnCompletes :
    PoppedForChecks (same 0x401000) .iretd .w32 ∧ modeOf (same 0x401000) ≠ .bits64 ∧
    GoodCodeSegment (same 0x401000) (frameCs (same 0x401000) .w32) (codeSeg 0 false) ∧
    rplOf (frameCs (same 0x401000) .w32) = (same 0x401000).cpl ∧
    GoodReturnIp (same 0x401000) (codeSeg 0 false) (frameIp (same 0x401000) .w32) :=
  ⟨popped_prot _ _ (by decide), by decide, goodCode_same _ (by decide), by decide, by unfold GoodReturnIp; decide⟩

/-- V12.9's state. -/
def long32 : State := longState 0x8FFD8 [0x0000001000400000, 0x202]

theorem witness_SameLevelIn64BitModeIsRefused :
    PoppedForChecks long32 .iretd .w32 ∧ modeOf long32 = .bits64 ∧
    GoodCodeSegment long32 (frameCs long32 .w32) (codeSeg 0 true) ∧ rplOf (frameCs long32 .w32) = long32.cpl ∧
    GoodReturnIp long32 (codeSeg 0 true) (frameIp long32 .w32) := by
  refine ⟨⟨rfl, rfl, .inr rfl, rfl, ?_, ⟨by decide, by decide⟩, fun h => by cases h⟩, rfl,
    ⟨by decide, ⟨by decide, by decide, by decide⟩, .inr (by decide), by decide, rfl, fun _ => by decide⟩, by decide,
    by unfold GoodReturnIp; decide⟩
  show stackTest long32 .w32 0 3 .zero = []
  decide

/-- V12.4's state: the legal NULL SS. -/
def longNull : State := longState 0x8FFD8 [0x400000, 0x10, 0x202, 0x5000, 0]

theorem popped_long (rsp : Nat) (frame : List Nat)
    (h : stackTest (longState rsp frame) .w64 0 5 .zero = [] ∧ frameFaults (longState rsp frame) .w64 0 5 = [] ∧
      frameTouchesApic (longState rsp frame) .w64 0 5 = false) :
    PoppedForChecks (longState rsp frame) (.iretq 0) .w64 :=
  ⟨rfl, rfl, .inr rfl, by show flagOf 0 .nt = false; decide, h.1, ⟨h.2.1, h.2.2⟩, fun h => by cases h⟩

theorem witness_IretqSameLevelCompletes :
    PoppedForChecks longNull (.iretq 0) .w64 ∧
    GoodCodeSegment longNull (frameCs longNull .w64) (codeSeg 0 true) ∧
    rplOf (frameCs longNull .w64) = longNull.cpl ∧ GoodReturnIp longNull (codeSeg 0 true) (frameIp longNull .w64) ∧
    LegalNullSs (codeSeg 0 true) (frameCs longNull .w64) (frameSs longNull .w64) :=
  ⟨popped_long _ _ (by decide),
    ⟨by decide, ⟨by decide, by decide, by decide⟩, .inr (by decide), by decide, rfl, fun _ => by decide⟩, by decide,
    by unfold GoodReturnIp; decide, by unfold LegalNullSs; decide⟩

/-- V12.1's state. -/
def longUser : State := longState 0x8FFD8 userFrame

/-- The three operand sizes do not differ in the hypotheses but for the second group: V11.2 with 32, V12.1 with 64. -/
theorem witness_OuterLevelReturnCompletes :
    (PoppedForChecks (outer 0x23) .iretd .w32 ∧
      GoodCodeSegment (outer 0x23) (frameCs (outer 0x23) .w32) (codeSeg 3 false) ∧
      (outer 0x23).cpl < rplOf (frameCs (outer 0x23) .w32) ∧ FrameOnStack (outer 0x23) .w32 3 2 ∧
      FrameReadable (outer 0x23) .w32 3 2 ∧
      GoodStackSegment (outer 0x23) (frameCs (outer 0x23) .w32) (frameSs (outer 0x23) .w32) (dataSeg 3) ∧
      GoodReturnIp (outer 0x23) (codeSeg 3 false) (frameIp (outer 0x23) .w32) ∧
      flagOf (frameFlags (outer 0x23) .w32) .vm = false) ∧
    (PoppedForChecks longUser (.iretq 0) .w64 ∧
      GoodCodeSegment longUser (frameCs longUser .w64) (codeSeg 3 true) ∧
      longUser.cpl < rplOf (frameCs longUser .w64) ∧
      GoodStackSegment longUser (frameCs longUser .w64) (frameSs longUser .w64) (dataSeg 3) ∧
      GoodReturnIp longUser (codeSeg 3 true) (frameIp longUser .w64)) := by
  unfold FrameOnStack FrameReadable GoodReturnIp
  exact ⟨⟨popped_prot _ _ (by decide), goodCode_outer _ (by decide), by decide, by decide, by decide,
      ⟨by decide, ⟨by decide, by decide, by decide⟩, by decide, rfl, by decide, rfl⟩, by decide, by decide⟩,
    ⟨popped_long _ _ (by decide),
      ⟨by decide, ⟨by decide, by decide, by decide⟩, .inr (by decide), by decide, rfl, fun _ => by decide⟩, by decide,
      ⟨by decide, ⟨by decide, by decide, by decide⟩, by decide, rfl, by decide, rfl⟩, by decide⟩⟩

/-- V11.14's state, with the EIP image at the limit. -/
def toV86 : State :=
  protState 0xFFDC [0x0001FFFF, 0x1000, 0x00023202, 0xFFFE, 0x2000, 0x3000, 0x4000, 0x5000, 0x6000]

theorem witness_ReturnToVirtual8086Completes :
    modeOf toV86 = .protectedMode ∧ toV86.plat.vmxNonRoot = false ∧ flagOf toV86.eflags .nt = false ∧ toV86.cpl = 0 ∧
    FrameOnStack toV86 .w32 0 3 ∧ FrameReadable toV86 .w32 0 3 ∧ flagOf (frameFlags toV86 .w32) .vm = true ∧
    FrameOnStack toV86 .w32 3 6 ∧ FrameReadable toV86 .w32 3 6 ∧
    (frameIp toV86 .w32 &&& 0xFFFF).toNat = toV86.plat.v86SegLimit.toNat := by
  unfold FrameOnStack FrameReadable; decide

theorem witness_SameLevelReturnFlags :
    PoppedForChecks (same 0x401000) .iretd .w32 ∧ rplOf (frameCs (same 0x401000) .w32) = (same 0x401000).cpl ∧
    ∃ t, exec .iretd (same 0x401000) = .next t :=
  ⟨popped_prot _ _ (by decide), by decide, next_of_isSome (by decide)⟩
theorem witness_OuterLevelReturnFlags :
    PoppedForChecks (outer 0x23) .iretd .w32 ∧ (outer 0x23).cpl < rplOf (frameCs (outer 0x23) .w32) ∧
    ∃ t, exec .iretd (outer 0x23) = .next t :=
  ⟨popped_prot _ _ (by decide), by decide, next_of_isSome (by decide)⟩
/-- DS holds a data segment of DPL 0 and is invalidated; ES holds one of DPL 3, the new CPL, and is left alone. -/
theorem witness_DataSegmentsInvalidatedOnOuterReturn :
    PoppedForChecks (outer 0x23) .iretd .w32 ∧ (outer 0x23).cpl < rplOf (frameCs (outer 0x23) .w32) ∧
    (∃ t, exec .iretd (outer 0x23) = .next t) ∧
    (isNull (outer 0x23).ds.sel = false ∧ isDataOrNonconforming (outer 0x23).ds.hidden = true ∧
      (outer 0x23).ds.hidden.dpl < 3) ∧ (3 : BitVec 2) ≤ (outer 0x23).es.hidden.dpl :=
  ⟨popped_prot _ _ (by decide), by decide, next_of_isSome (by decide), by decide, by decide⟩
theorem witness_InterruptReturnFrame :
    returnSize (.iretq 0) = some .w64 ∧ (∃ t, exec (.iretq 0) longUser = .next t) ∧
    (∃ t, exec .iret real16 = .next t) ∧ ∃ t, exec .iretd (same 0x401000) = .next t :=
  ⟨rfl, next_of_isSome (by decide), next_of_isSome (by decide), next_of_isSome (by decide)⟩
theorem witness_StackPointerAdvancesModuloItsSize :
    inBits64 longUser = true ∧ (inBits64 (outer 0x23) = false ∧ (outer 0x23).ss.hidden.db = true) ∧
    inBits64 real16 = false ∧ real16.ss.hidden.db = false := by decide

/-- A step with a next state, for the statements about every step: IRETQ to user mode at the instruction pointer. -/
def stepState : State :=
  { longUser with rip := 0x100000, mem := (longUser.mem.write 0x100000 0x48).write 0x100001 0xCF }

/-- IRETD that sets ID and IF, and one that enters virtual-8086 mode. -/
def stepIretd : State := { same 0x401000 with rip := 0x400FFF, mem := (same 0x401000).mem.write 0x400FFF 0xCF }
def stepToV86 : State := { toV86 with rip := 0x400FFF, mem := toV86.mem.write 0x400FFF 0xCF }

theorem inv_stepState : Inv stepState :=
  ⟨by decide, by unfold FlagsNamed; decide, by unfold NoVmInIa32e; decide, by unfold V86AtCpl3; decide,
    by unfold EipOutsideBits64; decide, by unfold CsHoldsCpl; decide⟩

theorem witness_StepKeepsTheInvariant : Inv stepState ∧ ∃ t, step stepState = .next t :=
  ⟨inv_stepState, next_of_isSome (by decide)⟩
theorem witness_PrivilegeIsNeverGained :
    ∃ t, step stepState = .next t ∧ t.cpl ≠ stepState.cpl := by
  obtain ⟨t, ht⟩ := next_of_isSome (o := step stepState) (by decide)
  have h : (nextOf (step stepState)).map (fun t => t.cpl) = some 3 := by decide
  refine ⟨t, ht, ?_⟩
  rw [ht] at h
  have : t.cpl = 3 := by simpa [nextOf] using h
  rw [this]; decide
theorem witness_ModeTransitions :
    (nextOf (step stepToV86)).map (fun t => modeOf t) = some .virtual8086 ∧ modeOf stepToV86 = .protectedMode ∧
    fetchInstr stepToV86 = .ok .iretd := by decide
theorem witness_IdFlagNeedsCpuid :
    (nextOf (step stepIretd)).map (fun t => (flagOf t.eflags .idf, flagOf t.eflags .intf)) = some (true, true) ∧
    flagOf stepIretd.eflags .idf = false := by decide
theorem witness_InterruptFlagNeedsPrivilege :
    (nextOf (step stepIretd)).map (fun t => flagOf t.eflags .intf) = some true ∧
    flagOf stepIretd.eflags .intf = false := by decide
/-- CPUID at CPL 3 in protected mode. -/
def stepUser : State :=
  { protState 0xFFF4 [] with
    cpl := 3, cs := { sel := 0x1B, hidden := codeSeg 3 false }, rip := 0x100, mem := [(0x100, 0x0F), (0x101, 0xA2)] }

theorem witness_PrivilegedFlagsNeedCplZero :
    (modeOf stepUser ≠ .realAddress ∧ stepUser.cpl ≠ 0 ∧ (nextOf (step stepUser)).isSome = true) ∧
    (modeOf State.reset = .realAddress ∧ (nextOf (step (State.reset.withFetchWord 16 0x0FA2))).isSome = true) := by decide
theorem witness_StepLeavesLaunchConstants : ∃ t, step stepIretd = .next t := next_of_isSome (by decide)

/-! ### Witnesses of the clauses on the further groups, modes and levels -/

/-- A state with another limit of SS. -/
def withSsLimit (s : State) (limit : Dword) : State :=
  { s with ss := { s.ss with hidden := { s.ss.hidden with limit := limit } } }

/-- V11.2's state with a stack that ends inside the two further items. -/
def outerShort : State := withSsLimit (outer 0x23) 0xFFFE

theorem witness_FrameOutsideStackFaults_furtherGroups :
    V86ReturnPops (v86State 0xFFFB 3 []) .iret .w16 ∧ ¬FrameOnStack (v86State 0xFFFB 3 []) .w16 0 3 ∧
    (PoppedForChecks outerShort .iretd .w32 ∧ GoodCodeSegment outerShort (frameCs outerShort .w32) (codeSeg 3 false) ∧
      outerShort.cpl < rplOf (frameCs outerShort .w32) ∧ FirstTestPasses outerShort .w32 (codeSeg 3 false) ∧
      ¬FrameOnStack outerShort .w32 3 2 ∧ frameFaults outerShort .w32 3 2 = []) ∧
    (let s := withSsLimit toV86 0xFFFE
     ReturnsToV86 s ∧ ¬FrameOnStack s .w32 3 6 ∧ frameFaults s .w32 3 6 = []) := by
  refine ⟨⟨rfl, by decide, rfl, by decide, rfl, by decide⟩, by unfold FrameOnStack; decide, ⟨⟨rfl, rfl,
    .inl ⟨.inl rfl, by decide⟩, by decide, ?_, ⟨by decide, by decide⟩, fun _ _ => by decide⟩, ⟨by decide, ⟨by decide,
    by decide, by decide⟩, .inr (by decide), by decide, rfl, fun h => by cases h⟩, by decide, fun h => (by cases h),
    by unfold FrameOnStack; decide, by decide⟩, ⟨rfl, rfl, by decide, rfl, ?_, ⟨by decide, by decide⟩, by decide⟩,
    by unfold FrameOnStack; decide, by decide⟩
  · show stackTest outerShort .w32 0 3 .zero = []
    decide
  · show stackTest (withSsLimit toV86 0xFFFE) .w32 0 3 .zero = []
    decide

/-- 64-bit mode at CPL 0, an IRETQ frame of code selector `cs`, with another entry at index 2 of the GDT. -/
def longCs (ip cs ss : Nat) (e : TableEntry) : State :=
  { longState 0x8FFD8 [ip, cs, 0x202, 0x5000, ss] with
    tables := { gdt := gdt.set 2 e, ldt := [], tr := 0, tssLink := 0 } }

/-- The D-bit and the L-bit both set. -/
def bothSizes : Descriptor := { codeSeg 0 true with db := true }

theorem popped_longCs (ip cs ss : Nat) (e : TableEntry)
    (h : stackTest (longCs ip cs ss e) .w64 0 5 .zero = [] ∧ frameFaults (longCs ip cs ss e) .w64 0 5 = [] ∧
      frameTouchesApic (longCs ip cs ss e) .w64 0 5 = false) :
    PoppedForChecks (longCs ip cs ss e) (.iretq 0) .w64 :=
  ⟨rfl, rfl, .inr rfl, by show flagOf 0 .nt = false; decide, h.1, ⟨h.2.1, h.2.2⟩, fun h => by cases h⟩

/-- A descriptor at a non-canonical address; D-bit and L-bit both set; a data segment, all in 64-bit mode. -/
theorem witness_CodeSegmentChecksInOrder_ia32e :
    (let s := longCs 0x1000 0x10 0 ⟨0x0000800000000000, codeSeg 0 true⟩
     PoppedForChecks s (.iretq 0) .w64 ∧ isNull (frameCs s .w64) = false ∧
       tableEntry s (frameCs s .w64) = some ⟨0x0000800000000000, codeSeg 0 true⟩ ∧ s.msr.lma = true ∧
       isCanonical s.cfg 0x0000800000000000 = false ∧ misaligned s 0x0000800000000000 8 = false ∧
       pageFaults s 0x0000800000000000 8 = false) ∧
    (let s := longCs 0x1000 0x10 0 ⟨0x2010, bothSizes⟩
     PoppedForChecks s (.iretq 0) .w64 ∧ Fetchable s (frameCs s .w64) bothSizes ∧ FirstTestPasses s .w64 bothSizes) ∧
    (let s := longCs 0x1000 0x10 0x2B ⟨0x2010, dataSeg 0⟩
     PoppedForChecks s (.iretq 0) .w64 ∧ Fetchable s (frameCs s .w64) (dataSeg 0) ∧
       FirstTestPasses s .w64 (dataSeg 0)) := by
  unfold Fetchable FirstTestPasses LegalNullSs
  exact ⟨⟨popped_longCs _ _ _ _ (by decide), by decide⟩, ⟨popped_longCs _ _ _ _ (by decide), by decide, by decide⟩,
    ⟨popped_longCs _ _ _ _ (by decide), by decide, by decide⟩⟩

/-- A NULL SS going back to CPL 3 in 64-bit mode, to compatibility mode, and, on the same level, with RPL 1. -/
theorem witness_StackSegmentChecksInOrder_ia32e :
    (let s := longState 0x8FFD8 [0x400000, 0x33, 0x202, 0x5000, 0]
     PoppedForChecks s (.iretq 0) .w64 ∧ GoodCodeSegment s (frameCs s .w64) (codeSeg 3 true) ∧
       s.cpl < rplOf (frameCs s .w64) ∧ isCanonical s.cfg (frameIp s .w64) = true ∧
       isNull (frameSs s .w64) = true ∧ rplOf (frameCs s .w64) = 3) ∧
    (let s := longState 0x8FFD8 [0x400000, 0x1B, 0x202, 0x5000, 0]
     PoppedForChecks s (.iretq 0) .w64 ∧ GoodCodeSegment s (frameCs s .w64) (codeSeg 3 false) ∧
       isNull (frameSs s .w64) = true ∧ (codeSeg 3 false).long = false) ∧
    (let s := longState 0x8FFD8 [0x400000, 0x10, 0x202, 0x5000, 1]
     PoppedForChecks s (.iretq 0) .w64 ∧ GoodCodeSegment s (frameCs s .w64) (codeSeg 0 true) ∧
       rplOf (frameCs s .w64) = s.cpl ∧ GoodReturnIp s (codeSeg 0 true) (frameIp s .w64) ∧
       isNull (frameSs s .w64) = true ∧ rplOf (frameSs s .w64) ≠ rplOf (frameCs s .w64)) := by
  refine ⟨⟨popped_long _ _ (by decide), ⟨by decide, ⟨by decide, by decide, by decide⟩, .inr (by decide), by decide, rfl,
    fun _ => by decide⟩, by decide⟩, ⟨popped_long _ _ (by decide), ⟨by decide, ⟨by decide, by decide, by decide⟩,
    .inr (by decide), by decide, rfl, fun _ => by decide⟩, by decide⟩, ⟨popped_long _ _ (by decide), ⟨by decide,
    ⟨by decide, by decide, by decide⟩, .inr (by decide), by decide, rfl, fun _ => by decide⟩, by decide,
    by unfold GoodReturnIp; decide, by decide, by decide⟩⟩

/-- V12.2's state: the first non-canonical instruction pointer, on a return to an outer level. -/
def longBadIp : State := longState 0x8FFD8 [0x0000800000000000, 0x33, 0x202, 0x5000, 0x2B]

/-- To the same level in 64-bit mode; to an outer level; in and to virtual-8086 mode. -/
theorem witness_BadReturnPointerFaults_furtherPaths :
    (let s := longState 0x8FFD8 [0x0000800000000000, 0x10, 0x202, 0x5000, 0]
     PoppedForChecks s (.iretq 0) .w64 ∧ GoodCodeSegment s (frameCs s .w64) (codeSeg 0 true) ∧
       rplOf (frameCs s .w64) = s.cpl ∧ ¬GoodReturnIp s (codeSeg 0 true) (frameIp s .w64) ∧
       s.msr.lma = true ∧ (codeSeg 0 true).long = true) ∧
    (PoppedForChecks longBadIp (.iretq 0) .w64 ∧ GoodCodeSegment longBadIp (frameCs longBadIp .w64) (codeSeg 3 true) ∧
      longBadIp.cpl < rplOf (frameCs longBadIp .w64) ∧
      ¬GoodReturnIp longBadIp (codeSeg 3 true) (frameIp longBadIp .w64) ∧
      GoodSs longBadIp (codeSeg 3 true) (frameCs longBadIp .w64) (frameSs longBadIp .w64)) ∧
    (let s := v86State 0x0FF4 3 (cells 0x0FF4 [0, 0, 1, 0])
     V86ReturnPops s .iretd .w32 ∧ FrameOnStack s .w32 0 3 ∧ FrameReadable s .w32 0 3 ∧
       s.cs.hidden.limit.toNat < (frameIp s .w32).toNat) ∧
    (let s := { toV86 with plat := { toV86.plat with v86SegLimit := 0xFFFE } }
     ReturnsToV86 s ∧ FrameOnStack s .w32 3 6 ∧ FrameReadable s .w32 3 6 ∧
       s.plat.v86SegLimit.toNat < (frameIp s .w32 &&& 0xFFFF).toNat) := by
  unfold GoodReturnIp FrameOnStack FrameReadable
  refine ⟨⟨popped_long _ _ (by decide), ⟨by decide, ⟨by decide, by decide, by decide⟩, .inr (by decide), by decide, rfl,
    fun _ => by decide⟩, by decide⟩, ⟨popped_long _ _ (by decide), ⟨by decide, ⟨by decide, by decide, by decide⟩,
    .inr (by decide), by decide, rfl, fun _ => by decide⟩, by decide, by decide, .inl ⟨dataSeg 3, by decide, ⟨by decide,
    by decide, by decide⟩, by decide, rfl, by decide, rfl⟩⟩, ⟨⟨rfl, by decide, rfl, by decide, rfl, by decide⟩,
    by decide⟩, ⟨rfl, rfl, by decide, rfl, ?_, ⟨by decide, by decide⟩, by decide⟩, by decide⟩
  show stackTest { toV86 with plat := { toV86.plat with v86SegLimit := 0xFFFE } } .w32 0 3 .zero = []
  decide

end Sys2Proof.Tests
end

/-! ### Facts about modes, masks and the popped frame -/

namespace Sys2Proof.Machine

/-! Each operating mode as the bits that select it (45_iret.md R305, R306). -/

theorem modeOf_eq_realAddress_iff {s : State} : modeOf s = .realAddress ↔ s.cr.pe = false := by
  unfold modeOf
  split_ifs <;> simp_all

theorem modeOf_eq_protectedMode_iff {s : State} :
    modeOf s = .protectedMode ↔ s.cr.pe = true ∧ s.msr.lma = false ∧ flagOf s.eflags .vm = false := by
  unfold modeOf
  split_ifs <;> simp_all

theorem modeOf_eq_virtual8086_iff {s : State} :
    modeOf s = .virtual8086 ↔ s.cr.pe = true ∧ s.msr.lma = false ∧ flagOf s.eflags .vm = true := by
  unfold modeOf
  split_ifs <;> simp_all

theorem modeOf_eq_bits64_iff {s : State} :
    modeOf s = .bits64 ↔ s.cr.pe = true ∧ s.msr.lma = true ∧ s.cs.hidden.long = true := by
  unfold modeOf
  split_ifs <;> simp_all

/-- IA-32e mode is a mode with IA32_EFER.LMA = 1 (45_iret.md R306). -/
theorem lma_of_ia32e {s : State} (h : modeOf s = .compatibility ∨ modeOf s = .bits64) : s.msr.lma = true := by
  unfold modeOf at h
  split_ifs at h <;> simp_all

/-! Where VM and ID stand in the masks of 45_iret.md R341. -/

@[simp] theorem getLsbD_maskIf (b : Bool) (m : Dword) (i : Nat) : (maskIf b m).getLsbD i = (b && m.getLsbD i) := by
  cases b <;> simp [maskIf]

@[simp] theorem realMask_vm (sz : OpSize) : (realMask sz).getLsbD Flag.vm.bit = false := by
  cases sz <;> decide

@[simp] theorem realMask_idf (sz : OpSize) : (realMask sz).getLsbD Flag.idf.bit = (sz != .w16) := by
  cases sz <;> decide

@[simp] theorem v86Mask_vm (sz : OpSize) : (v86Mask sz).getLsbD Flag.vm.bit = false := by
  cases sz <;> decide

@[simp] theorem v86Mask_idf (sz : OpSize) : (v86Mask sz).getLsbD Flag.idf.bit = (sz != .w16) := by
  cases sz <;> decide

@[simp] theorem sameLevelMask_vm (sz : OpSize) (cpl iopl : BitVec 2) :
    (sameLevelMask sz cpl iopl).getLsbD Flag.vm.bit = false := by
  simp only [sameLevelMask, BitVec.getLsbD_or, getLsbD_maskIf]
  simp [Flag.bit, maskA, maskB, maskI, maskP, maskV]

@[simp] theorem sameLevelMask_idf (sz : OpSize) (cpl iopl : BitVec 2) :
    (sameLevelMask sz cpl iopl).getLsbD Flag.idf.bit = (sz != .w16) := by
  simp only [sameLevelMask, BitVec.getLsbD_or, getLsbD_maskIf]
  simp [Flag.bit, maskA, maskB, maskI, maskP, maskV]

/-- VM is loaded on one path of an outer-level return only (45_iret.md R351). -/
@[simp] theorem outerLevelMask_vm (sz : OpSize) (cpl iopl : BitVec 2) :
    (outerLevelMask sz cpl iopl).getLsbD Flag.vm.bit = (cpl == 0 && sz == .w32) := by
  simp only [outerLevelMask, BitVec.getLsbD_or, getLsbD_maskIf]
  simp [Flag.bit, maskA, maskB, maskI, maskP, maskV, maskM]

@[simp] theorem outerLevelMask_idf (sz : OpSize) (cpl iopl : BitVec 2) :
    (outerLevelMask sz cpl iopl).getLsbD Flag.idf.bit = (sz != .w16) := by
  simp only [outerLevelMask, BitVec.getLsbD_or, getLsbD_maskIf]
  simp [Flag.bit, maskA, maskB, maskI, maskP, maskV, maskM]

/-- Each flag after a return loaded its image: `flagOf_loadFlags` in the terms of a state. -/
theorem flagOf_flagsLoaded (s : State) (mask image : Dword) (f : Flag) :
    flagOf (flagsLoaded s mask image) f =
      if mask.getLsbD f.bit = true ∧ (f = .idf → s.cfg.cpuidSupported = true) then flagOf image f
      else flagOf s.eflags f :=
  flagOf_loadFlags _ _ _ _ _

/-- A load of the flags changes ID only where the mask holds it, on a part with CPUID (10_state.md R27). -/
theorem idf_changed_of_flagsLoaded {s : State} {mask image : Dword}
    (h : flagOf (flagsLoaded s mask image) .idf ≠ flagOf s.eflags .idf) :
    mask.getLsbD Flag.idf.bit = true ∧ s.cfg.cpuidSupported = true := by
  rw [flagOf_flagsLoaded] at h
  split_ifs at h with hm
  · exact ⟨hm.1, hm.2 rfl⟩
  · exact absurd rfl h

@[simp] theorem flagOf_flagsLoaded_vm (s : State) (mask image : Dword) :
    flagOf (flagsLoaded s mask image) .vm =
      if mask.getLsbD Flag.vm.bit = true then flagOf image .vm else flagOf s.eflags .vm := by
  simp [flagOf_flagsLoaded]

/-! A popped item is zero-extended (45_iret.md R303). -/

theorem memReadNat_lt (s : State) (a : Qword) (n : Nat) : memReadNat s a n < 2 ^ (8 * n) := by
  induction n generalizing a with
  | zero => simp [memReadNat]
  | succ n ih =>
    have hbyte : (byteAt s a).toNat < 256 := (byteAt s a).isLt
    have hrest := ih (a + 1)
    have hpow : 2 ^ (8 * (n + 1)) = 256 * 2 ^ (8 * n) := by rw [Nat.mul_succ, Nat.pow_add, Nat.mul_comm]
    rw [memReadNat, hpow]
    omega

theorem frameItem_toNat_lt (s : State) (sz : OpSize) (k : Nat) : (frameItem s sz k).toNat < 2 ^ (8 * sz.bytes) := by
  rw [frameItem, memRead, BitVec.toNat_ofNat]
  exact (Nat.mod_le _ _).trans_lt (memReadNat_lt _ _ _)

/-- A 16-bit flags image has no flag above bit 15. -/
theorem flagOf_frameFlags_w16 {s : State} {f : Flag} (hf : 16 ≤ f.bit) : flagOf (frameFlags s .w16) f = false := by
  have hitem : (frameItem s .w16 2).toNat < 2 ^ f.bit :=
    (frameItem_toNat_lt s .w16 2).trans_le (Nat.pow_le_pow_right (by decide) hf)
  rw [flagOf, frameFlags, BitVec.getLsbD_setWidth, BitVec.getLsbD, Nat.testBit_lt_two_pow hitem, Bool.and_false]

/-- An instruction pointer inside a segment's limit has 32 bits. -/
theorem toNat_lt_of_withinCsLimit {limit : Dword} {ip : Qword} (h : withinCsLimit limit ip = true) :
    ip.toNat < 2 ^ 32 :=
  (of_decide_eq_true h).trans_lt limit.isLt

/-- A good return instruction pointer for a mode other than 64-bit mode has 32 bits. -/
theorem toNat_lt_of_badReturnIp {s : State} {d : Descriptor} {ip : Qword} (hm : newModeIs64 s d = false)
    (h : badReturnIp s d ip = false) : ip.toNat < 2 ^ 32 := by
  simp only [badReturnIp, hm, Bool.false_eq_true, if_false, Bool.not_eq_false'] at h
  exact toNat_lt_of_withinCsLimit h

/-- The segment tests that pass in virtual-8086 mode (45_iret.md R316). -/
theorem v86SegmentTests_eq_nil {s : State} {sz : OpSize} :
    v86SegmentTests s sz = [] ↔
      stackTest s sz 0 3 .zero = [] ∧
        (readsIpAhead s sz = true → withinCsLimit s.cs.hidden.limit (frameIp s sz) = true) := by
  simp only [v86SegmentTests]
  by_cases h : stackTest s sz 0 3 .zero = []
  · cases hr : readsIpAhead s sz <;> cases hb : withinCsLimit s.cs.hidden.limit (frameIp s sz) <;> simp [h]
  · simp [h]

end Sys2Proof.Machine

/-! ### What the state of each path of an interrupt return holds -/

namespace Sys2Proof.Machine

section Fields

variable (s : State) (sz : OpSize) (d : Descriptor)

@[simp] theorem realAddressNext_rip : (realAddressNext s sz).rip = frameIp s sz := by simp [realAddressNext]
@[simp] theorem realAddressNext_eflags :
    (realAddressNext s sz).eflags = flagsLoaded s (realMask sz) (frameFlags s sz) := by simp [realAddressNext]

@[simp] theorem virtual8086Next_rip : (virtual8086Next s sz).rip = frameIp s sz := by simp [virtual8086Next]
@[simp] theorem virtual8086Next_eflags :
    (virtual8086Next s sz).eflags = flagsLoaded s (v86Mask sz) (frameFlags s sz) := by simp [virtual8086Next]
@[simp] theorem virtual8086Next_cpl : (virtual8086Next s sz).cpl = s.cpl := by simp [virtual8086Next]

@[simp] theorem toV86Next_rip : (toV86Next s sz).rip = frameIp s sz &&& 0xFFFF := by simp [toV86Next]
@[simp] theorem toV86Next_eflags :
    (toV86Next s sz).eflags = flagsLoaded s maskNamed (frameFlags s sz) := by simp [toV86Next]
@[simp] theorem toV86Next_cpl : (toV86Next s sz).cpl = 3 := by simp [toV86Next]

@[simp] theorem sameLevelNext_rip : (sameLevelNext s sz d).rip = frameIp s sz := by simp [sameLevelNext, loadCsIp]
@[simp] theorem sameLevelNext_cs : (sameLevelNext s sz d).cs = ⟨frameCs s sz, d⟩ := by
  simp [sameLevelNext, loadCsIp]
@[simp] theorem sameLevelNext_eflags :
    (sameLevelNext s sz d).eflags =
      flagsLoaded s (sameLevelMask sz s.cpl (ioplOf s.eflags)) (frameFlags s sz) := by simp [sameLevelNext]
@[simp] theorem sameLevelNext_cpl : (sameLevelNext s sz d).cpl = s.cpl := by simp [sameLevelNext, loadCsIp]

@[simp] theorem sameLevelNext64_rip : (sameLevelNext64 s d).rip = frameIp s .w64 := by
  simp [sameLevelNext64, loadCsIp]
@[simp] theorem sameLevelNext64_cs : (sameLevelNext64 s d).cs = ⟨frameCs s .w64, d⟩ := by
  simp [sameLevelNext64, loadCsIp]
@[simp] theorem sameLevelNext64_eflags :
    (sameLevelNext64 s d).eflags =
      flagsLoaded s (sameLevelMask .w64 s.cpl (ioplOf s.eflags)) (frameFlags s .w64) := by simp [sameLevelNext64]
@[simp] theorem sameLevelNext64_cpl : (sameLevelNext64 s d).cpl = s.cpl := by simp [sameLevelNext64, loadCsIp]

@[simp] theorem outerLevelNext_rip : (outerLevelNext s sz d).rip = frameIp s sz := by
  simp [outerLevelNext, loadCsIp]
@[simp] theorem outerLevelNext_cs : (outerLevelNext s sz d).cs = ⟨frameCs s sz, d⟩ := by
  simp [outerLevelNext, loadCsIp]
@[simp] theorem outerLevelNext_eflags :
    (outerLevelNext s sz d).eflags =
      flagsLoaded s (outerLevelMask sz s.cpl (ioplOf s.eflags)) (frameFlags s sz) := by simp [outerLevelNext]
@[simp] theorem outerLevelNext_cpl : (outerLevelNext s sz d).cpl = rplOf (frameCs s sz) := by simp [outerLevelNext]

@[simp] theorem cpuidNext_mem (rip : Qword) : (cpuidNext s rip).mem = s.mem := by simp [cpuidNext]
@[simp] theorem cpuidNext_eflags (rip : Qword) : (cpuidNext s rip).eflags = s.eflags := by simp [cpuidNext]
@[simp] theorem cpuidNext_cpl (rip : Qword) : (cpuidNext s rip).cpl = s.cpl := by simp [cpuidNext]
@[simp] theorem cpuidNext_cs (rip : Qword) : (cpuidNext s rip).cs = s.cs := by simp [cpuidNext]
@[simp] theorem cpuidNext_cr (rip : Qword) : (cpuidNext s rip).cr = s.cr := by simp [cpuidNext]
@[simp] theorem cpuidNext_lma (rip : Qword) : (cpuidNext s rip).msr.lma = s.msr.lma := by simp [cpuidNext]
@[simp] theorem cpuidNext_rip (rip : Qword) : (cpuidNext s rip).rip = rip := by simp [cpuidNext]
@[simp] theorem modeOf_cpuidNext (rip : Qword) : modeOf (cpuidNext s rip) = modeOf s := by simp [modeOf]

end Fields

/-! ### What every interrupt return does to each part of the invariant -/

section Returns

variable {s t : State} {sz : OpSize}

/-- No return changes memory, a control register, an MSR, the tables, the platform or the part (45_iret.md R300,
implicit outputs). -/
theorem Returned.frame (h : Returned s sz t) :
    t.mem = s.mem ∧ t.cr = s.cr ∧ t.msr = s.msr ∧ t.tables = s.tables ∧ t.plat = s.plat ∧ t.cfg = s.cfg := by
  cases h <;>
    simp [realAddressNext, virtual8086Next, toV86Next, sameLevelNext, sameLevelNext64, outerLevelNext, loadCsIp]

theorem Returned.mem_eq (h : Returned s sz t) : t.mem = s.mem := h.frame.1

theorem Returned.cr_eq (h : Returned s sz t) : t.cr = s.cr := by
  obtain ⟨-, hcr, -⟩ := h.frame
  exact hcr

theorem Returned.msr_eq (h : Returned s sz t) : t.msr = s.msr := by
  obtain ⟨-, -, hmsr, -⟩ := h.frame
  exact hmsr

/-- Every return loads its flags from the image under a mask, which holds ID with operand size 32 or 64 only: a return
to virtual-8086 mode, whose mask holds every flag, needs an image with VM = 1, which 16 bits do not reach (45_iret.md
R303, R341). -/
theorem Returned.eflags_eq (h : Returned s sz t) :
    ∃ mask, t.eflags = flagsLoaded s mask (frameFlags s sz) ∧
      (mask.getLsbD Flag.idf.bit = true → sz ≠ .w16) := by
  cases h with
  | real => exact ⟨_, realAddressNext_eflags s sz, by simp⟩
  | v86 => exact ⟨_, virtual8086Next_eflags s sz, by simp⟩
  | toV86 mode nt pop vm =>
    refine ⟨_, toV86Next_eflags s sz, ?_⟩
    rintro - rfl
    rw [flagOf_frameFlags_w16 (by decide)] at vm
    cases vm
  | same d => exact ⟨_, sameLevelNext_eflags s sz d, by simp⟩
  | same64 d _ _ size => exact ⟨_, size ▸ sameLevelNext64_eflags s d, by simp [size]⟩
  | outer d => exact ⟨_, outerLevelNext_eflags s sz d, by simp⟩

theorem Returned.flagsNamed (h : Returned s sz t) : FlagsNamed t := by
  obtain ⟨mask, heq, -⟩ := h.eflags_eq
  rw [FlagsNamed, heq]
  exact loadFlags_named _ _ _ _

/-- The checks on a code segment are made outside real-address mode only. -/
theorem ReachesPrivilegeReturn.pe {d : Descriptor} (h : ReachesPrivilegeReturn s sz d) : s.cr.pe = true := by
  have hm : modeOf s ≠ .realAddress := by
    obtain ⟨hm, -⟩ | ⟨hm | hm, -⟩ := h.mode <;> simp [hm]
  simpa [modeOf_eq_realAddress_iff] using hm

/-- The checks on a code segment are made outside virtual-8086 mode only. -/
theorem ReachesPrivilegeReturn.vm {d : Descriptor} (h : ReachesPrivilegeReturn s sz d) (hl : s.msr.lma = false) :
    flagOf s.eflags .vm = false := by
  obtain ⟨hm, -⟩ | ⟨hm, -⟩ := h.mode
  · exact (modeOf_eq_protectedMode_iff.1 hm).2.2
  · simp [lma_of_ia32e hm] at hl

/-- An outer-level return never sets VM: in protected mode at CPL 0 an image with VM = 1 goes to virtual-8086 mode
instead (45_iret.md R315), and in IA-32e mode it is refused (R351, decision D25). -/
theorem ReachesPrivilegeReturn.vm_of_outerLevelNext {d : Descriptor} (hc : ReachesPrivilegeReturn s sz d)
    (hr : loadsVmInIa32e s sz = false) (hvm : flagOf (outerLevelNext s sz d).eflags .vm = true) :
    flagOf s.eflags .vm = true := by
  simp only [outerLevelNext_eflags, flagOf_flagsLoaded_vm, outerLevelMask_vm, Bool.and_eq_true, beq_iff_eq] at hvm
  split_ifs at hvm with hmask
  · obtain ⟨hcpl, rfl⟩ := hmask
    obtain ⟨-, -, himage⟩ | ⟨hm, -⟩ := hc.mode
    · simp [hvm, hcpl] at himage
    · simp [loadsVmInIa32e, lma_of_ia32e hm, hcpl, hvm] at hr
  · exact hvm

/-- Only a return from protected mode, to virtual-8086 mode, sets VM (60_exceptions.md R397). -/
theorem Returned.vm_cases (h : Returned s sz t) (hvm : flagOf t.eflags .vm = true) :
    flagOf s.eflags .vm = true ∨ (modeOf s = .protectedMode ∧ t = toV86Next s sz) := by
  cases h with
  | real => exact .inl (by simpa using hvm)
  | v86 => exact .inl (by simpa using hvm)
  | toV86 mode => exact .inr ⟨mode, rfl⟩
  | same => exact .inl (by simpa using hvm)
  | same64 => exact .inl (by simpa using hvm)
  | outer d checks _ _ _ _ _ vm => exact .inl (checks.vm_of_outerLevelNext vm hvm)

theorem Returned.noVmInIa32e (h : Returned s sz t) (hs : NoVmInIa32e s) : NoVmInIa32e t := by
  intro hl
  rw [h.msr_eq] at hl
  by_contra hvm
  obtain hvm | ⟨hm, -⟩ := h.vm_cases (by simpa using hvm)
  · simp [hs hl] at hvm
  · simp [(modeOf_eq_protectedMode_iff.1 hm).2.1] at hl

/-- A state in virtual-8086 mode after a return is that of a return executed there or of a return from protected
mode. -/
theorem Returned.cases_of_virtual8086 (h : Returned s sz t) (hm : modeOf t = .virtual8086) :
    (modeOf s = .virtual8086 ∧ t.cpl = s.cpl) ∨ t.cpl = 3 := by
  obtain ⟨hpe, hlma, hvm⟩ := modeOf_eq_virtual8086_iff.1 hm
  rw [h.cr_eq] at hpe
  rw [h.msr_eq] at hlma
  obtain hvm' | ⟨-, rfl⟩ := h.vm_cases hvm
  · have hs : modeOf s = .virtual8086 := modeOf_eq_virtual8086_iff.2 ⟨hpe, hlma, hvm'⟩
    cases h with
    | real mode => simp [mode] at hs
    | v86 => exact .inl ⟨hs, virtual8086Next_cpl s sz⟩
    | toV86 mode => simp [mode] at hs
    | same d checks => simp [checks.vm hlma] at hvm'
    | same64 d checks => simp [checks.vm hlma] at hvm'
    | outer d checks => simp [checks.vm hlma] at hvm'
  · exact .inr (toV86Next_cpl s sz)

theorem Returned.v86AtCpl3 (h : Returned s sz t) (hs : V86AtCpl3 s) : V86AtCpl3 t := by
  intro hm
  obtain ⟨hv, hcpl⟩ | hcpl := h.cases_of_virtual8086 hm
  · rw [hcpl, hs hv]
  · exact hcpl

/-- A good return instruction pointer of a return that does not end in 64-bit mode has 32 bits (45_iret.md R336). -/
theorem ReachesPrivilegeReturn.toNat_ip_lt {d : Descriptor} {ip : Qword} (hc : ReachesPrivilegeReturn s sz d)
    (h : Returned s sz t) (hcs : t.cs.hidden = d) (hm : modeOf t ≠ .bits64) (hip : badReturnIp s d ip = false) :
    ip.toNat < 2 ^ 32 := by
  rw [ne_eq, modeOf_eq_bits64_iff, h.cr_eq, h.msr_eq, hcs] at hm
  exact toNat_lt_of_badReturnIp (by simpa [newModeIs64, hc.pe] using hm) hip

theorem Returned.eipOutsideBits64 (h : Returned s sz t) : EipOutsideBits64 t := by
  intro hm
  have hr := h
  cases h with
  | real _ _ _ low => rw [realAddressNext_rip]; omega
  | v86 _ _ _ pop =>
    obtain ⟨htests, hf, ha⟩ := popGroup_eq_ok.1 pop
    rw [virtual8086Next_rip]
    exact toNat_lt_of_withinCsLimit
      ((v86SegmentTests_eq_nil.1 htests).2 (readsIpAhead_of_popped (by decide) hf ha))
  | toV86 =>
    rw [toV86Next_rip, BitVec.toNat_and]
    exact Nat.and_le_right.trans_lt (by decide)
  | same d checks _ _ _ ip =>
    rw [sameLevelNext_rip]
    exact checks.toNat_ip_lt hr (by simp) hm ip
  | same64 d checks _ _ _ _ ip =>
    rw [sameLevelNext64_rip]
    exact checks.toNat_ip_lt hr (by simp) hm ip
  | outer d checks _ _ _ _ ip =>
    rw [outerLevelNext_rip]
    exact checks.toNat_ip_lt hr (by simp) hm ip

/-- A return executed in virtual-8086 mode stays there and one to virtual-8086 mode arrives there, so a return that ends
in protected or IA-32e mode has loaded a CS whose RPL is the CPL it leaves (45_iret.md R353). -/
theorem Returned.csHoldsCpl (h : Returned s sz t) : CsHoldsCpl t := by
  intro hpe hm
  rw [h.cr_eq] at hpe
  rw [ne_eq, modeOf_eq_virtual8086_iff, h.cr_eq, h.msr_eq] at hm
  cases h with
  | real mode => simp [modeOf_eq_realAddress_iff.1 mode] at hpe
  | v86 mode =>
    obtain ⟨-, hl, hvm⟩ := modeOf_eq_virtual8086_iff.1 mode
    exact absurd ⟨hpe, hl, by simpa using hvm⟩ hm
  | toV86 mode _ _ vm =>
    obtain ⟨-, hl, -⟩ := modeOf_eq_protectedMode_iff.1 mode
    exact absurd ⟨hpe, hl, by simpa [show maskNamed.getLsbD Flag.vm.bit = true by decide] using vm⟩ hm
  | same d _ level => simpa using level
  | same64 d _ level size => simpa [size] using level
  | outer d => simp

/-- Every interrupt return keeps the invariant. -/
theorem Returned.inv (h : Returned s sz t) (hs : Inv s) : Inv t where
  memory := h.mem_eq ▸ hs.memory
  flags := h.flagsNamed
  ia32e := h.noVmInIa32e hs.ia32e
  v86 := h.v86AtCpl3 hs.v86
  eip := h.eipOutsideBits64
  cpl := h.csHoldsCpl

/-- ID changes only with operand size 32 or 64, on a part with CPUID (10_state.md R27). -/
theorem Returned.idf_changed (h : Returned s sz t) (hne : flagOf t.eflags .idf ≠ flagOf s.eflags .idf) :
    s.cfg.cpuidSupported = true ∧ sz ≠ .w16 := by
  obtain ⟨mask, heq, hsz⟩ := h.eflags_eq
  rw [heq] at hne
  obtain ⟨hmask, hsup⟩ := idf_changed_of_flagsLoaded hne
  exact ⟨hsup, hsz hmask⟩

end Returns

/-! ### CPUID and the invariant -/

/-- CPUID keeps the invariant: it changes nothing the invariant speaks of but the instruction pointer, whose advance is
refused past the limit of the code segment (10_state.md R26). -/
theorem inv_cpuidNext {s : State} (hs : Inv s)
    (hadvance : inBits64 s = true ∨ s.rip.toNat + 2 ≤ s.cs.hidden.limit.toNat) : Inv (cpuidNext s (s.rip + 2)) where
  memory := by simpa using hs.memory
  flags := by simpa [FlagsNamed] using hs.flags
  ia32e := by simpa [NoVmInIa32e] using hs.ia32e
  v86 := by simpa [V86AtCpl3] using hs.v86
  eip := by
    intro hm
    rw [modeOf_cpuidNext] at hm
    obtain hb | hlimit := hadvance
    · exact absurd (by simpa [inBits64] using hb) hm
    · have hl := s.cs.hidden.limit.isLt
      rw [cpuidNext_rip]
      bv_omega
  cpl := by simpa [CsHoldsCpl] using hs.cpl

/-! ### The obligations -/

/-- Settles O52: a step is CPUID or an interrupt return on one of its paths, and each keeps the invariant. -/
theorem stepKeepsTheInvariant : Obligations.StepKeepsTheInvariant := by
  intro s t hs hstep
  obtain ⟨i, -, hexec⟩ := step_next_cases hstep
  obtain ⟨-, rfl, -, hadvance⟩ | ⟨-, h⟩ | ⟨-, h⟩ | ⟨-, -, h⟩ := exec_next_cases hexec
  · exact inv_cpuidNext hs (hadvance.imp And.left And.right)
  · exact h.inv hs
  · exact h.inv hs
  · exact h.inv hs

/-- Settles O56: CPUID leaves EFLAGS, and a return that changes ID has operand size 32 or 64. -/
theorem idFlagNeedsCpuid : Obligations.IdFlagNeedsCpuid := by
  intro s t hstep hne
  obtain ⟨i, hfetch, hexec⟩ := step_next_cases hstep
  obtain ⟨-, rfl, -, -⟩ | ⟨-, h⟩ | ⟨rfl, h⟩ | ⟨⟨rxb, rfl⟩, -, h⟩ := exec_next_cases hexec
  · simp at hne
  · exact absurd rfl (h.idf_changed hne).2
  · exact ⟨(h.idf_changed hne).1, .inl hfetch⟩
  · exact ⟨(h.idf_changed hne).1, .inr ⟨rxb, hfetch⟩⟩

/-- Settles O53: reset is in real-address mode, with no flag set, no memory written and a 16-bit instruction pointer. -/
theorem resetMeetsTheInvariant : Obligations.ResetMeetsTheInvariant where
  memory := State.reset_mem_wf
  flags := by unfold FlagsNamed; decide
  ia32e := fun hl => absurd hl (by decide)
  v86 := fun hm => absurd hm (by decide)
  eip := fun _ => by decide
  cpl := fun hpe => absurd hpe (by decide)

/-- Settles O60: IA32_MISC_ENABLE is 0 at reset. -/
theorem resetBootNt4IsZero : Obligations.ResetBootNt4IsZero := by
  unfold Obligations.ResetBootNt4IsZero
  decide

end Sys2Proof.Machine

/-! ### Memory and the stack pointer -/

namespace Sys2Proof.Machine

/-- Byte `i` of a value read from memory, as a digit of the number in base 256 (20_memory.md R62, decision D2). -/
theorem memReadNat_byte (s : State) (a : Qword) {n i : Nat} (hi : i < n) :
    memReadNat s a n / 2 ^ (8 * i) % 2 ^ 8 = (byteAt s (a + BitVec.ofNat 64 i)).toNat := by
  induction n generalizing a i with
  | zero => omega
  | succ n ih =>
    have hbyte : (byteAt s a).toNat < 256 := (byteAt s a).isLt
    rw [memReadNat]
    cases i with
    | zero =>
      rw [BitVec.add_zero]
      omega
    | succ i =>
      have hdiv : ((byteAt s a).toNat + 256 * memReadNat s (a + 1) n) / 256 = memReadNat s (a + 1) n := by omega
      have haddr : a + BitVec.ofNat 64 (i + 1) = a + 1 + BitVec.ofNat 64 i := by
        rw [BitVec.add_assoc, Nat.add_comm, BitVec.ofNat_add]
        rfl
      rw [Nat.mul_succ, Nat.add_comm (8 * i), Nat.pow_add, ← Nat.div_div_eq_div_mul, hdiv,
        ih (a + 1) (Nat.lt_of_succ_lt_succ hi), haddr]

/-- A value of up to 8 bytes fits the word it is read into. -/
theorem memRead_toNat (s : State) (a : Qword) {n : Nat} (hn : n ≤ 8) : (memRead s a n).toNat = memReadNat s a n := by
  have hpow : 2 ^ (8 * n) ≤ 2 ^ 64 := Nat.pow_le_pow_right (by decide) (by omega)
  rw [memRead, BitVec.toNat_ofNat, Nat.mod_eq_of_lt ((memReadNat_lt s a n).trans_le hpow)]

/-- The stack's address size in bits: 64 in 64-bit mode, else 32 or 16 as SS has its D/B bit set or not (20_memory.md
R66, log 24). -/
def stackBits (s : State) : Nat := if inBits64 s then 64 else if s.ss.hidden.db then 32 else 16

/-- The bits of RSP that address the stack are the low `stackBits`. -/
theorem stackMask_eq (s : State) : stackMask s = BitVec.ofNat 64 (2 ^ stackBits s - 1) := by
  unfold stackMask stackBits
  split_ifs <;> rfl

theorem stackBits_le (s : State) : stackBits s ≤ 64 := by
  unfold stackBits
  split_ifs <;> decide

/-- The low `w` bits of a word kept by a mask. -/
theorem toNat_and_lowMask (x : Qword) {w : Nat} (hw : w ≤ 64) :
    (x &&& BitVec.ofNat 64 (2 ^ w - 1)).toNat = x.toNat % 2 ^ w := by
  have hpow : 2 ^ w ≤ 2 ^ 64 := Nat.pow_le_pow_right (by decide) hw
  have hpos : 0 < 2 ^ w := Nat.two_pow_pos w
  rw [BitVec.toNat_and, BitVec.toNat_ofNat, Nat.mod_eq_of_lt (by omega), Nat.and_two_pow_sub_one_eq_mod]

/-- The bits from bit `w` up, kept by the complement of that mask. -/
theorem toNat_and_not_lowMask (x : Qword) (w : Nat) :
    (x &&& ~~~BitVec.ofNat 64 (2 ^ w - 1)).toNat = x.toNat >>> w <<< w := by
  refine Nat.eq_of_testBit_eq fun i => ?_
  rw [BitVec.testBit_toNat, BitVec.getLsbD_and, BitVec.getLsbD_not, BitVec.getLsbD_ofNat,
    Nat.testBit_two_pow_sub_one, Nat.testBit_shiftLeft, Nat.testBit_shiftRight, BitVec.testBit_toNat]
  by_cases hw : w ≤ i
  · by_cases hi : i < 64
    · simp [hw, hi, Nat.not_lt.2 hw]
    · simp [hw, hi, BitVec.getLsbD_of_ge x i (Nat.le_of_not_lt hi)]
  · simp [hw, Nat.lt_of_not_le hw]

/-- A word of the bits of `x` from bit `w` up and the bits of `y` below. -/
theorem toNat_replaceLow (x y : Qword) {w : Nat} (hw : w ≤ 64) :
    ((x &&& ~~~BitVec.ofNat 64 (2 ^ w - 1)) ||| (y &&& BitVec.ofNat 64 (2 ^ w - 1))).toNat =
      x.toNat / 2 ^ w * 2 ^ w + y.toNat % 2 ^ w := by
  have hlow : y.toNat % 2 ^ w < 2 ^ w := Nat.mod_lt _ (Nat.two_pow_pos w)
  rw [BitVec.toNat_or, toNat_and_lowMask y hw, toNat_and_not_lowMask, ← Nat.shiftLeft_add_eq_or_of_lt hlow,
    Nat.shiftLeft_eq, Nat.shiftRight_eq_div_pow]

/-- The stack offset is a number modulo the stack's address size. -/
theorem stackOffset_toNat (s : State) (k : Nat) :
    (stackOffset s k).toNat = (s.gpr.rsp.toNat + k) % 2 ^ stackBits s := by
  have hdvd : 2 ^ stackBits s ∣ 2 ^ 64 := Nat.pow_dvd_pow 2 (stackBits_le s)
  rw [stackOffset, stackMask_eq, toNat_and_lowMask _ (stackBits_le s), BitVec.toNat_add, BitVec.toNat_ofNat,
    Nat.add_mod_mod, Nat.mod_mod_of_dvd _ hdvd]

/-- A pop replaces the bits of RSP that address the stack by the advanced offset. -/
theorem rspAfterPop_toNat (s : State) (k : Nat) :
    (rspAfterPop s k).toNat =
      s.gpr.rsp.toNat / 2 ^ stackBits s * 2 ^ stackBits s + (s.gpr.rsp.toNat + k) % 2 ^ stackBits s := by
  rw [← stackOffset_toNat, rspAfterPop, stackOffset, stackMask_eq, toNat_replaceLow _ _ (stackBits_le s),
    toNat_and_lowMask _ (stackBits_le s)]

end Sys2Proof.Machine

/-! ### How an interrupt return reaches its pops and what stops it there -/

namespace Sys2Proof.Machine

section Paths

variable {s : State} {i : Instr} {sz : OpSize} {d : Descriptor} {first count : Nat}

/-- Every interrupt return runs the one procedure with its operand size; IRETQ does so in 64-bit mode (45_iret.md
R300). -/
theorem exec_of_returnSize (hi : returnSize i = some sz) (hq : sz = .w64 → inBits64 s = true) :
    exec i s = finish (interruptReturn s sz) := by
  cases i with
  | iret => cases hi; rfl
  | iretd => cases hi; rfl
  | iretq rxb =>
    cases hi
    rw [exec, execIretq, hq rfl]
    rfl
  | cpuid => cases hi
  | lockCpuid => cases hi
  | lockIretIretd => cases hi
  | lockIretq rxb => cases hi

theorem interruptReturn_of_protectedMode (hx : s.plat.vmxNonRoot = false) (hm : modeOf s = .protectedMode) :
    interruptReturn s sz = protectedModeReturn s sz := by
  simp [interruptReturn, hx, hm]

theorem interruptReturn_of_virtual8086 (hx : s.plat.vmxNonRoot = false) (hm : modeOf s = .virtual8086) :
    interruptReturn s sz = virtual8086Return s sz := by
  simp [interruptReturn, hx, hm]

theorem interruptReturn_of_ia32e (hx : s.plat.vmxNonRoot = false)
    (hm : modeOf s = .compatibility ∨ modeOf s = .bits64) : interruptReturn s sz = ia32eReturn s sz := by
  obtain hm | hm := hm <;> simp [interruptReturn, hx, hm]

/-- IRETQ reaches its pops in 64-bit mode only. -/
theorem inBits64_of_w64
    (hm : ((modeOf s = .protectedMode ∨ modeOf s = .compatibility) ∧ sz ≠ .w64) ∨ modeOf s = .bits64)
    (hz : sz = .w64) : inBits64 s = true := by
  obtain ⟨-, hne⟩ | hm := hm
  · exact absurd hz hne
  · simp [inBits64, hm]

/-- With operand size 16 or 32 the frame has three items in every mode (45_iret.md R356). -/
theorem ia32eItems_of_ne_w64 (h : sz ≠ .w64) : ia32eItems sz = 3 := by
  cases sz with
  | w16 => rfl
  | w32 => rfl
  | w64 => exact absurd rfl h

/-- The stack test raises #SS or nothing (20_memory.md R67). -/
theorem stackTest_eq_nil_or (s : State) (sz : OpSize) (first count : Nat) (code : ErrorCode) :
    stackTest s sz first count code = [] ∨ stackTest s sz first count code = [.ss code] := by
  unfold stackTest
  split_ifs <;> simp

/-- Bytes that fail the stack test raise #SS(0) (20_memory.md R67). -/
theorem stackTest_of_not_onStack (h : ¬FrameOnStack s sz first count) : stackTest s sz first count .zero = [.ss .zero] :=
  (stackTest_eq_nil_or s sz first count .zero).resolve_left h

/-- A group whose one failing test is a segment test raises that test's exception. -/
theorem popGroup_of_one_test (f : Fault) (hf : frameFaults s sz first count = []) :
    popGroup s sz first count [f] = .error (.fault f) := by
  simp [popGroup, hf]

/-- A group that is on the stack and can be read is popped. -/
theorem popGroup_of_readable (hs : FrameOnStack s sz first count) (hr : FrameReadable s sz first count) :
    popGroup s sz first count (stackTest s sz first count .zero) = .ok () :=
  popGroup_eq_ok.2 ⟨hs, hr⟩

/-- A group outside the stack whose reads do not fault raises #SS(0). -/
theorem popGroup_of_not_onStack (hs : ¬FrameOnStack s sz first count) (hf : frameFaults s sz first count = []) :
    popGroup s sz first count (stackTest s sz first count .zero) = .error (.fault (.ss .zero)) := by
  rw [stackTest_of_not_onStack hs, popGroup_of_one_test _ hf]

/-- The first group in protected mode (45_iret.md R315). -/
theorem protectedModeReturn_of_not_onStack (hn : flagOf s.eflags .nt = false) (hs : ¬FrameOnStack s sz 0 3)
    (hf : frameFaults s sz 0 3 = []) : protectedModeReturn s sz = .error (.fault (.ss .zero)) := by
  simp [protectedModeReturn, hn, popGroup_of_not_onStack hs hf]

/-- The first group in IA-32e mode (45_iret.md R356). -/
theorem ia32eReturn_of_not_onStack (hn : flagOf s.eflags .nt = false) (hs : ¬FrameOnStack s sz 0 (ia32eItems sz))
    (hf : frameFaults s sz 0 (ia32eItems sz) = []) : ia32eReturn s sz = .error (.fault (.ss .zero)) := by
  simp [ia32eReturn, hn, popGroup_of_not_onStack hs hf]

/-- The frame of a return in virtual-8086 mode: the stack test comes before that of the instruction pointer (45_iret.md
R316). -/
theorem virtual8086Return_of_not_onStack (hv : s.cr.vme = false) (hi : ioplOf s.eflags = 3)
    (hs : ¬FrameOnStack s sz 0 3) (hf : frameFaults s sz 0 3 = []) :
    virtual8086Return s sz = .error (.fault (.ss .zero)) := by
  have htests : v86SegmentTests s sz = [.ss .zero] := by simp [v86SegmentTests, stackTest_of_not_onStack hs]
  simp [virtual8086Return, hv, hi, htests, popGroup_of_one_test _ hf]

/-- The six further items of a return to virtual-8086 mode (45_iret.md R333). -/
theorem toVirtual8086Return_of_not_onStack (hs : ¬FrameOnStack s sz 3 6) (hf : frameFaults s sz 3 6 = []) :
    toVirtual8086Return s sz = .error (.fault (.ss .zero)) := by
  have htests : toV86SegmentTests s sz = [.ss .zero] := by simp [toV86SegmentTests, stackTest_of_not_onStack hs]
  simp [toVirtual8086Return, htests, popGroup_of_one_test _ hf]

/-- The two further items of an outer-level return of operand size 16 or 32 (45_iret.md R345). -/
theorem popOuterItems_of_not_onStack (hz : sz ≠ .w64) (hs : ¬FrameOnStack s sz 3 2) (hf : frameFaults s sz 3 2 = []) :
    popOuterItems s sz = .error (.fault (.ss .zero)) := by
  cases sz with
  | w16 => exact popGroup_of_not_onStack hs hf
  | w32 => exact popGroup_of_not_onStack hs hf
  | w64 => exact absurd rfl hz

/-- An IRETD whose image has VM = 1 goes on to the return to virtual-8086 mode (45_iret.md R315, R332). -/
theorem ReturnsToV86.exec_eq (h : ReturnsToV86 s) : exec .iretd s = finish (toVirtual8086Return s .w32) := by
  rw [exec_of_returnSize rfl (by simp), interruptReturn_of_protectedMode h.vmx h.mode]
  simp [protectedModeReturn, h.nt, popGroup_of_readable h.onStack h.readable, h.vm, h.cpl]

/-- A selector whose descriptor can be fetched. -/
theorem Fetchable.fetchDescriptor_eq {sel : Word} (h : Fetchable s sel d) : fetchDescriptor s sel = .ok d := by
  obtain ⟨hf, ha, rfl⟩ := h
  exact fetchDescriptor_eq_ok.2 ⟨hf, ha, rfl⟩

/-- A good return code segment passes the checks on the code segment (45_iret.md R324 to R328). -/
theorem GoodCodeSegment.codeSegmentFaults_eq {sel : Word} (h : GoodCodeSegment s sel d) :
    codeSegmentFaults s sel d = [] := by
  have hsizes : (s.msr.lma && d.db && d.long) = false := by
    cases hl : s.msr.lma
    · rfl
    · simpa using h.sizes hl
  have hlevel : ¬rplOf sel < s.cpl := BitVec.not_lt.2 h.level
  obtain ⟨hk, hdpl⟩ | ⟨hk, hdpl⟩ := h.kind
  · have hdpl : ¬rplOf sel < d.dpl := BitVec.not_lt.2 hdpl
    simp [codeSegmentFaults, isCode, hk, hsizes, hlevel, hdpl, h.present]
  · simp [codeSegmentFaults, isCode, hk, hsizes, hlevel, hdpl, h.present]

/-- The legal NULL SS in IA-32e mode is the one that the model's test lets pass (45_iret.md R357). -/
theorem LegalNullSs.nullSsLegal_eq {csSel ssSel : Word} (h : LegalNullSs d csSel ssSel) (hl : s.msr.lma = true) :
    nullSsLegal s d csSel ssSel = true := by
  obtain ⟨-, hlong, hcs, hss⟩ := h
  simpa [nullSsLegal, newModeIs64, hl, hlong, hss] using hcs

/-- No cause of the first #GP(0) in IA-32e mode (45_iret.md R357). -/
theorem FirstTestPasses.ia32eFirstFaults_eq (h : FirstTestPasses s sz d) (hl : s.msr.lma = true) :
    ia32eFirstFaults s sz d = [] := by
  obtain ⟨hip, hss⟩ := h hl
  have hcanonical : (newModeIs64 s d && !isCanonical s.cfg (frameIp s sz)) = false := by
    cases hd : d.long
    · simp [newModeIs64, hd]
    · simp [hip hd]
  have hnull : (sz == .w64 && isNull (frameSs s sz) && !nullSsLegal s d (frameCs s sz) (frameSs s sz)) = false := by
    by_contra hc
    simp only [Bool.not_eq_false, Bool.and_eq_true, beq_iff_eq, Bool.not_eq_true'] at hc
    obtain ⟨⟨hsz, hn⟩, hlegal⟩ := hc
    simp [(hss hsz hn).nullSsLegal_eq hl] at hlegal
  simp [ia32eFirstFaults, hcanonical, hnull]

/-- To a good code segment, the checks in protected mode pass (45_iret.md R321 to R329). -/
theorem protectedModeCheckedReturn_of_good (hc : GoodCodeSegment s (frameCs s sz) d) :
    protectedModeCheckedReturn s sz = privilegeReturn s sz d := by
  simp [protectedModeCheckedReturn, hc.notNull, hc.fetched.fetchDescriptor_eq, hc.codeSegmentFaults_eq]

/-- To a good code segment with no cause of the first #GP(0), the checks in IA-32e mode pass (45_iret.md R357, R358). -/
theorem ia32eCheckedReturn_of_good (hl : s.msr.lma = true) (hc : GoodCodeSegment s (frameCs s sz) d)
    (hfirst : FirstTestPasses s sz d) : ia32eCheckedReturn s sz = privilegeReturn s sz d := by
  obtain ⟨hf, ha, -⟩ := hc.fetched
  simp [ia32eCheckedReturn, hc.notNull, ia32eUnfetchedFaults_of_fetched hf ha, hc.fetched.fetchDescriptor_eq,
    hfirst.ia32eFirstFaults_eq hl, hc.codeSegmentFaults_eq]

/-- A return in protected or IA-32e mode to a good code segment goes on to the branch on the privilege level (45_iret.md
R329). -/
theorem PoppedForChecks.exec_eq_privilegeReturn (h : PoppedForChecks s i sz)
    (hc : GoodCodeSegment s (frameCs s sz) d) (hfirst : FirstTestPasses s sz d) :
    exec i s = finish (privilegeReturn s sz d) := by
  have hpop := popGroup_of_readable h.onStack h.readable
  rw [exec_of_returnSize h.size (inBits64_of_w64 h.mode)]
  congr 1
  have hia32e (hm : modeOf s = .compatibility ∨ modeOf s = .bits64) :
      interruptReturn s sz = privilegeReturn s sz d := by
    rw [interruptReturn_of_ia32e h.vmx hm, ia32eReturn, h.nt, hpop]
    exact ia32eCheckedReturn_of_good (lma_of_ia32e hm) hc hfirst
  obtain ⟨hm | hm, hz⟩ | hm := h.mode
  · have hvm : ¬(flagOf (frameFlags s sz) .vm && s.cpl == 0) = true := by
      rw [Bool.and_eq_true, beq_iff_eq]
      rintro ⟨hvm, hcpl⟩
      simp [h.notToV86 hm hcpl] at hvm
    rw [ia32eItems_of_ne_w64 hz] at hpop
    rw [interruptReturn_of_protectedMode h.vmx hm, protectedModeReturn, if_neg (by simp [h.nt]), hpop, Result.ok_bind,
      if_neg hvm]
    exact protectedModeCheckedReturn_of_good hc
  · exact hia32e (.inl hm)
  · exact hia32e (.inr hm)

/-- The first group of a return in protected or IA-32e mode (45_iret.md R315, R356). -/
theorem interruptReturn_of_not_onStack (hx : s.plat.vmxNonRoot = false)
    (hm : ((modeOf s = .protectedMode ∨ modeOf s = .compatibility) ∧ sz ≠ .w64) ∨ modeOf s = .bits64)
    (hn : flagOf s.eflags .nt = false) (hs : ¬FrameOnStack s sz 0 (ia32eItems sz))
    (hf : frameFaults s sz 0 (ia32eItems sz) = []) : interruptReturn s sz = .error (.fault (.ss .zero)) := by
  obtain ⟨hm | hm, hz⟩ | hm := hm
  · rw [ia32eItems_of_ne_w64 hz] at hs hf
    rw [interruptReturn_of_protectedMode hx hm, protectedModeReturn_of_not_onStack hn hs hf]
  · rw [interruptReturn_of_ia32e hx (.inl hm), ia32eReturn_of_not_onStack hn hs hf]
  · rw [interruptReturn_of_ia32e hx (.inr hm), ia32eReturn_of_not_onStack hn hs hf]

end Paths

/-! ### The obligations on memory, the stack and the step -/

/-- Settles O34: each group of items reaches its stack test, which fails, and nothing else of the group does. -/
theorem frameOutsideStackFaults : Obligations.FrameOutsideStackFaults := by
  intro s i sz
  refine ⟨fun hi hx hm hn hs hf => ?_, fun h hs hf => ?_, fun d h hz hc hl hfirst hs hf => ?_, fun h hs hf => ?_⟩
  · rw [exec_of_returnSize hi (inBits64_of_w64 hm), finish_eq_fault]
    exact interruptReturn_of_not_onStack hx hm hn hs hf
  · rw [exec_of_returnSize h.size (absurd · h.small), interruptReturn_of_virtual8086 h.vmx h.mode, finish_eq_fault]
    exact virtual8086Return_of_not_onStack h.vme h.iopl hs hf
  · rw [h.exec_eq_privilegeReturn hc hfirst, privilegeReturn, if_pos hl, finish_eq_fault, outerLevelReturn,
      popOuterItems_of_not_onStack hz hs hf, Result.error_bind]
  · rw [h.exec_eq, finish_eq_fault]
    exact toVirtual8086Return_of_not_onStack hs hf

/-- Settles O49: the bytes are the digits of the value in base 256, and up to 8 of them fit the word. -/
theorem memoryReadsAreLittleEndian : Obligations.MemoryReadsAreLittleEndian := by
  intro s a n i hn hi
  apply BitVec.eq_of_toNat_eq
  rw [BitVec.extractLsb'_toNat, memRead_toNat s a hn, Nat.shiftRight_eq_div_pow, memReadNat_byte s a hi]

/-- Settles O51: one equation for every address size, at 64, 32 and 16 bits. -/
theorem stackPointerAdvancesModuloItsSize : Obligations.StackPointerAdvancesModuloItsSize := by
  intro s k
  refine ⟨fun h64 => ?_, fun h64 hdb => ?_, fun h64 hdb => ?_⟩
  · have hbits : stackBits s = 64 := by simp [stackBits, h64]
    rw [rspAfterPop_toNat, hbits, Nat.div_eq_of_lt s.gpr.rsp.isLt, Nat.zero_mul, Nat.zero_add]
  · have hbits : stackBits s = 32 := by simp [stackBits, h64, hdb]
    rw [rspAfterPop_toNat, hbits]
  · have hbits : stackBits s = 16 := by simp [stackBits, h64, hdb]
    rw [rspAfterPop_toNat, hbits]

/-- The instruction fetched is the one the bytes at the instruction pointer decode to. -/
theorem fetchInstr_of_decode {s : State} {i : Instr} {rest : List Byte}
    (h : decode (codeSizeOf s) (fetchBytes s maxInstrBytes 0) = .ok (i, rest)) : fetchInstr s = .ok i := by
  rw [fetchInstr, h]

theorem step_of_fetchInstr {s : State} {i : Instr} (h : fetchInstr s = .ok i) : step s = exec i s := by
  rw [step, h]

/-- Settles O4: what is decoded is what is fetched, and what is fetched is executed. -/
theorem stepRunsTheDecodedInstruction : Obligations.StepRunsTheDecodedInstruction :=
  fun _ _ _ hdecode _ => step_of_fetchInstr (fetchInstr_of_decode hdecode)

end Sys2Proof.Machine

/-! ### The language of the decoder -/

namespace Sys2Proof

/-- The words that may follow LOCK, beside 66H (`with66`) or without it: the rows of 30_encoding.md R95. -/
inductive LockedEncoding (with66 : Bool) : Instr → List Byte → Prop
  | lockIretIretd : LockedEncoding with66 .lockIretIretd [0xCF]
  | lockIretq {b : Byte} (hrex : isRexW b = true) : LockedEncoding with66 (.lockIretq (rexBits b)) [b, 0xCF]
  | lockCpuid (h66 : with66 = false) : LockedEncoding with66 .lockCpuid [0x0F, 0xA2]

/-- The words of each instruction under code size `c`, one constructor per sequence of prefixes (30_encoding.md R91 to
R96).  That they are all the decoder accepts is `decode_eq_ok_iff`. -/
inductive Encoding (c : CodeSize) : Instr → List Byte → Prop
  | cpuid : Encoding c .cpuid [0x0F, 0xA2]
  | interruptReturn : Encoding c (decodeInterruptReturn c false) [0xCF]
  | interruptReturn66 : Encoding c (decodeInterruptReturn c true) [0x66, 0xCF]
  | iretq {b : Byte} (hc : c = .mode64) (hrex : isRexW b = true) : Encoding c (.iretq (rexBits b)) [b, 0xCF]
  | iretq66 {b : Byte} (hc : c = .mode64) (hrex : isRexW b = true) : Encoding c (.iretq (rexBits b)) [0x66, b, 0xCF]
  | lock {i : Instr} {word : List Byte} (hw : LockedEncoding false i word) : Encoding c i (0xF0 :: word)
  | lock66 {i : Instr} {word : List Byte} (hw : LockedEncoding true i word) : Encoding c i (0xF0 :: 0x66 :: word)
  | lockAfter66 {i : Instr} {word : List Byte} (hw : LockedEncoding true i word) : Encoding c i (0x66 :: 0xF0 :: word)

/-! REX.W is told from every other byte of the table, and carries its ignored bits (30_encoding.md R93). -/

/-- The decoder's tests for other bytes fail on REX.W. -/
theorem ne_of_isRexW {b : Byte} (hrex : isRexW b = true) : b ≠ 0x0F ∧ b ≠ 0xCF ∧ b ≠ 0xF0 ∧ b ≠ 0x66 := by
  refine ⟨?_, ?_, ?_, ?_⟩ <;> rintro rfl <;> exact absurd hrex (by decide)

@[simp] theorem isRexW_rexW (rxb : BitVec 3) : isRexW (rexW rxb) = true := by revert rxb; decide
@[simp] theorem rexBits_rexW (rxb : BitVec 3) : rexBits (rexW rxb) = rxb := by revert rxb; decide

/-! Each part of the decoder accepts its own part of the language. -/

theorem decodeLocked_eq_ok_iff {with66 : Bool} {bytes rest : List Byte} {i : Instr} :
    decodeLocked with66 bytes = .ok (i, rest) ↔ ∃ word, bytes = word ++ rest ∧ LockedEncoding with66 i word := by
  constructor
  · intro h
    unfold decodeLocked at h
    split at h
    · cases h
    · split_ifs at h with hcf hrex hcpuid
      · cases h
        exact ⟨[0xCF], by simp [hcf], .lockIretIretd⟩
      · split at h
        · split_ifs at h with hcf'
          cases h
          exact ⟨[_, 0xCF], by simp [hcf'], .lockIretq hrex⟩
        · cases h
      · split at h
        · split_ifs at h with ha2
          cases h
          exact ⟨[0x0F, 0xA2], by simp [hcpuid.1, ha2], .lockCpuid hcpuid.2⟩
        · cases h
  · rintro ⟨word, rfl, hw⟩
    cases hw with
    | lockIretIretd => rfl
    | lockIretq hrex =>
      obtain ⟨-, hcf, -⟩ := ne_of_isRexW hrex
      simp only [List.cons_append, List.nil_append, decodeLocked, if_neg hcf, if_pos hrex, if_true]
    | lockCpuid h66 =>
      subst h66
      rfl

theorem decodeRexW_eq_ok_iff {c : CodeSize} {b : Byte} {bytes rest : List Byte} {i : Instr} :
    decodeRexW c b bytes = .ok (i, rest) ↔ c = .mode64 ∧ i = .iretq (rexBits b) ∧ bytes = 0xCF :: rest := by
  constructor
  · intro h
    unfold decodeRexW at h
    split at h
    · cases h
    · split_ifs at h with hcf
      subst hcf
      cases c <;> cases h
      exact ⟨rfl, rfl, rfl⟩
  · rintro ⟨rfl, rfl, rfl⟩
    rfl

/-- What is accepted after 66H is the rest of a word of the language that begins with it. -/
theorem decodePrefixed66_eq_ok {c : CodeSize} {bytes rest : List Byte} {i : Instr}
    (h : decodePrefixed66 c bytes = .ok (i, rest)) : ∃ word, bytes = word ++ rest ∧ Encoding c i (0x66 :: word) := by
  unfold decodePrefixed66 at h
  split at h
  · cases h
  · split_ifs at h with hcf hrex hlock
    · cases h
      exact ⟨[0xCF], by simp [hcf], .interruptReturn66⟩
    · obtain ⟨hc, rfl, rfl⟩ := decodeRexW_eq_ok_iff.1 h
      exact ⟨[_, 0xCF], rfl, .iretq66 hc hrex⟩
    · obtain ⟨word, rfl, hw⟩ := decodeLocked_eq_ok_iff.1 h
      exact ⟨0xF0 :: word, by simp [hlock], .lockAfter66 hw⟩

/-- What is accepted after LOCK is the rest of a word of the language that begins with it. -/
theorem decodeAfterLock_eq_ok {c : CodeSize} {bytes rest : List Byte} {i : Instr}
    (h : decodeAfterLock bytes = .ok (i, rest)) : ∃ word, bytes = word ++ rest ∧ Encoding c i (0xF0 :: word) := by
  unfold decodeAfterLock at h
  split at h
  · cases h
  · split_ifs at h with h66
    · obtain ⟨word, rfl, hw⟩ := decodeLocked_eq_ok_iff.1 h
      exact ⟨0x66 :: word, by simp [h66], .lock66 hw⟩
    · obtain ⟨word, hbytes, hw⟩ := decodeLocked_eq_ok_iff.1 h
      exact ⟨word, hbytes, .lock hw⟩

/-- What the decoder accepts is a word of the language and what follows it. -/
theorem encoding_of_decode {c : CodeSize} {bytes rest : List Byte} {i : Instr}
    (h : decode c bytes = .ok (i, rest)) : ∃ word, bytes = word ++ rest ∧ Encoding c i word := by
  unfold decode at h
  split at h
  · cases h
  · split_ifs at h with hcpuid hcf hlock h66 hrex
    · split at h
      · split_ifs at h with ha2
        cases h
        exact ⟨[0x0F, 0xA2], by simp [hcpuid, ha2], .cpuid⟩
      · cases h
    · cases h
      exact ⟨[0xCF], by simp [hcf], .interruptReturn⟩
    · obtain ⟨word, rfl, hw⟩ := decodeAfterLock_eq_ok h
      exact ⟨0xF0 :: word, by simp [hlock], hw⟩
    · obtain ⟨word, rfl, hw⟩ := decodePrefixed66_eq_ok h
      exact ⟨0x66 :: word, by simp [h66], hw⟩
    · obtain ⟨hc, rfl, rfl⟩ := decodeRexW_eq_ok_iff.1 h
      exact ⟨[_, 0xCF], rfl, .iretq hc hrex⟩

/-- No locked word begins with 66H, so the decoder takes none of its bytes for that. -/
theorem decodeAfterLock_of_lockedEncoding {i : Instr} {word : List Byte} (hw : LockedEncoding false i word)
    (rest : List Byte) : decodeAfterLock (word ++ rest) = decodeLocked false (word ++ rest) := by
  cases hw with
  | lockIretIretd => rfl
  | lockIretq hrex =>
    obtain ⟨-, -, -, h66⟩ := ne_of_isRexW hrex
    exact if_neg h66
  | lockCpuid => rfl

/-- A first byte that is neither an opcode byte nor LOCK nor 66H is REX.W or begins no row (30_encoding.md R104). -/
theorem decode_of_other_first {c : CodeSize} {b : Byte} {bytes : List Byte} (hcpuid : b ≠ 0x0F) (hcf : b ≠ 0xCF)
    (hlock : b ≠ 0xF0) (h66 : b ≠ 0x66) :
    decode c (b :: bytes) = if isRexW b then decodeRexW c b bytes else .error .notDescribed := by
  simp only [decode.eq_def, if_neg hcpuid, if_neg hcf, if_neg hlock, if_neg h66]

theorem decode_of_isRexW {c : CodeSize} {b : Byte} {bytes : List Byte} (hrex : isRexW b = true) :
    decode c (b :: bytes) = decodeRexW c b bytes := by
  obtain ⟨hcpuid, hcf, hlock, h66⟩ := ne_of_isRexW hrex
  rw [decode_of_other_first hcpuid hcf hlock h66, if_pos hrex]

theorem decodePrefixed66_of_isRexW {c : CodeSize} {b : Byte} {bytes : List Byte} (hrex : isRexW b = true) :
    decodePrefixed66 c (b :: bytes) = decodeRexW c b bytes := by
  obtain ⟨-, hcf, -⟩ := ne_of_isRexW hrex
  rw [decodePrefixed66, if_neg hcf, if_pos hrex]

/-- Every word of the language is decoded, whatever follows it. -/
theorem Encoding.decode_append {c : CodeSize} {i : Instr} {word : List Byte} (h : Encoding c i word)
    (rest : List Byte) : decode c (word ++ rest) = .ok (i, rest) := by
  cases h with
  | cpuid => rfl
  | interruptReturn => rfl
  | interruptReturn66 => rfl
  | iretq hc hrex => exact (decode_of_isRexW hrex).trans (decodeRexW_eq_ok_iff.2 ⟨hc, rfl, rfl⟩)
  | iretq66 hc hrex => exact (decodePrefixed66_of_isRexW hrex).trans (decodeRexW_eq_ok_iff.2 ⟨hc, rfl, rfl⟩)
  | lock hw =>
    exact (decodeAfterLock_of_lockedEncoding hw rest).trans (decodeLocked_eq_ok_iff.2 ⟨_, rfl, hw⟩)
  | lock66 hw => exact decodeLocked_eq_ok_iff.2 ⟨_, rfl, hw⟩
  | lockAfter66 hw => exact decodeLocked_eq_ok_iff.2 ⟨_, rfl, hw⟩

/-- The decoder accepts the words of the language and nothing else. -/
theorem decode_eq_ok_iff {c : CodeSize} {bytes rest : List Byte} {i : Instr} :
    decode c bytes = .ok (i, rest) ↔ ∃ word, bytes = word ++ rest ∧ Encoding c i word := by
  refine ⟨encoding_of_decode, ?_⟩
  rintro ⟨word, rfl, hw⟩
  exact hw.decode_append rest

/-- The encoder writes a word of the language. -/
theorem encoding_encode {c : CodeSize} {i : Instr} (h : i.wellFormed c = true) : Encoding c i (encode c i) := by
  cases i with
  | cpuid => exact .cpuid
  | iret =>
    cases c
    case bits16 => exact .interruptReturn
    case bits32 => exact .interruptReturn66
    case mode64 => exact .interruptReturn66
  | iretd =>
    cases c
    case bits16 => exact .interruptReturn66
    case bits32 => exact .interruptReturn
    case mode64 => exact .interruptReturn
  | iretq rxb =>
    have hc : c = .mode64 := by simpa [Instr.wellFormed] using h
    simpa [encode] using Encoding.iretq hc (isRexW_rexW rxb)
  | lockCpuid => exact .lock (.lockCpuid rfl)
  | lockIretIretd => exact .lock .lockIretIretd
  | lockIretq rxb =>
    simpa [encode] using Encoding.lock (c := c) (.lockIretq (isRexW_rexW rxb))

/-! What every word of the language has. -/

/-- `CF` without REX.W is IRET or IRETD (30_encoding.md R96). -/
theorem decodeInterruptReturn_cases (c : CodeSize) (with66 : Bool) :
    decodeInterruptReturn c with66 = .iret ∨ decodeInterruptReturn c with66 = .iretd := by
  cases c <;> cases with66 <;> decide

/-- The last byte of an instruction's row of the opcode table: A2H for CPUID, CFH for the interrupt returns. -/
def opcodeByte (i : Instr) : Byte := if i = .cpuid ∨ i = .lockCpuid then 0xA2 else 0xCF

@[simp] theorem opcodeByte_decodeInterruptReturn (c : CodeSize) (with66 : Bool) :
    opcodeByte (decodeInterruptReturn c with66) = 0xCF := by
  obtain h | h := decodeInterruptReturn_cases c with66 <;> simp [h, opcodeByte]

theorem LockedEncoding.wellFormed {with66 : Bool} {c : CodeSize} {i : Instr} {word : List Byte}
    (h : LockedEncoding with66 i word) : i.wellFormed c = true := by
  cases h <;> rfl

/-- A locked word ends in the byte of its row and has two bytes at most. -/
theorem LockedEncoding.shape {with66 : Bool} {i : Instr} {word : List Byte} (h : LockedEncoding with66 i word) :
    word.length ≤ 2 ∧ word.getLast? = some (opcodeByte i) := by
  cases h <;> simp [opcodeByte]

theorem Encoding.wellFormed {c : CodeSize} {i : Instr} {word : List Byte} (h : Encoding c i word) :
    i.wellFormed c = true := by
  cases h with
  | cpuid => rfl
  | interruptReturn => obtain h | h := decodeInterruptReturn_cases c false <;> rw [h] <;> rfl
  | interruptReturn66 => obtain h | h := decodeInterruptReturn_cases c true <;> rw [h] <;> rfl
  | iretq hc | iretq66 hc => rw [hc]; rfl
  | lock hw | lock66 hw | lockAfter66 hw => exact hw.wellFormed

/-- A word of the language ends in the byte of its row and has four bytes at most. -/
theorem Encoding.shape {c : CodeSize} {i : Instr} {word : List Byte} (h : Encoding c i word) :
    word.length ≤ maxInstrBytes ∧ word.getLast? = some (opcodeByte i) := by
  cases h with
  | cpuid => decide
  | interruptReturn | interruptReturn66 => simp [maxInstrBytes]
  | iretq | iretq66 => simp [maxInstrBytes, opcodeByte]
  | lock hw | lock66 hw | lockAfter66 hw =>
    obtain ⟨hlength, hlast⟩ := hw.shape
    simp only [List.length_cons, maxInstrBytes, List.getLast?_cons, hlast, Option.getD_some, and_true]
    omega

end Sys2Proof

/-! ### The obligations on the encoding -/

namespace Sys2Proof.Machine

/-- Bytes the decoder does not describe are refused by the step. -/
theorem step_of_notDescribed {s : State}
    (h : decode (codeSizeOf s) (fetchBytes s maxInstrBytes 0) = .error .notDescribed) :
    step s = .refused .notDescribed := by
  rw [step, fetchInstr, h]

/-- Settles O1: the encoder writes a word of the language, and the decoder accepts every such word. -/
theorem decodeOfEncodeIsIdentity : Obligations.DecodeOfEncodeIsIdentity :=
  fun _ _ rest hwf => (encoding_encode hwf).decode_append rest

/-- Settles O2: what the decoder accepts is a word of the language, and every such word has the length and last byte
stated; it is not empty since it has a last byte. -/
theorem decodeTakesOneInstruction : Obligations.DecodeTakesOneInstruction := by
  intro c bytes rest i h
  obtain ⟨word, hbytes, hw⟩ := decode_eq_ok_iff.1 h
  obtain ⟨hlength, hlast⟩ := hw.shape
  have hne : word ≠ [] := by
    rintro rfl
    cases hlast
  exact ⟨hw.wellFormed, word, hbytes, List.length_pos_of_ne_nil hne, hlength, hlast⟩

/-- Settles O3: each word is the one the encoder writes for its instruction. -/
theorem writtenOutWordsDecode : Obligations.WrittenOutWordsDecode :=
  have word (c : CodeSize) (i : Instr) (h : i.wellFormed c = true) : decode c (encode c i ++ []) = .ok (i, []) :=
    decodeOfEncodeIsIdentity c i [] h
  ⟨word .bits16 .cpuid rfl, word .mode64 .cpuid rfl, word .bits16 .iret rfl, word .bits32 .iretd rfl,
    word .bits32 .iret rfl, word .mode64 .iretd rfl, word .mode64 (.iretq 0b010) rfl, word .bits16 .lockCpuid rfl,
    word .bits32 .lockIretIretd rfl, word .mode64 (.lockIretq 0) rfl⟩

/-- Settles O5: the bytes fetched are the ones decoded, and a first byte of no row is not described. -/
theorem stepRefusesUndescribedBytes : Obligations.StepRefusesUndescribedBytes := by
  intro s b rest hfetch
  rw [← hfetch]
  refine ⟨step_of_notDescribed, fun hcpuid hcf hlock h66 hrex => step_of_notDescribed ?_⟩
  rw [hfetch, decode_of_other_first hcpuid hcf hlock h66, if_neg (by simp [hrex])]

end Sys2Proof.Machine

/-! ### CPUID: the instruction -/

namespace Sys2Proof.Machine

/-! What CPUID's tests let through and what they stop (40_cpuid.md R120, R121). -/

theorem exec_cpuid (s : State) : exec .cpuid s = execCpuid s := rfl

/-- The instruction pointer advances where it stays in the code segment, or in the address space in 64-bit mode. -/
theorem advancedRip_of_room {s : State} {len : Nat}
    (h : if modeOf s = .bits64 then s.rip.toNat + len < 2 ^ 64 else s.rip.toNat + len ≤ s.cs.hidden.limit.toNat) :
    advancedRip s len = .ok (s.rip + BitVec.ofNat 64 len) := by
  by_cases hm : modeOf s = .bits64
  · rw [if_pos hm] at h
    rw [advancedRip, if_pos (by simpa [inBits64] using hm), if_pos h]
  · rw [if_neg hm] at h
    rw [advancedRip, if_neg (by simpa [inBits64] using hm), if_pos h]

theorem repeatsLeaf02_eq_false_iff {s : State} :
    repeatsLeaf02 s = false ↔ (selectLeaf s.cfg (leafInput s) = 2 → leaf02Repeats s.cfg = false) := by
  by_cases h : selectLeaf s.cfg (leafInput s) = 2 <;> simp [repeatsLeaf02, h]

section Tests

variable {s : State}

theorem execCpuid_of_unsupported (hsup : s.cfg.cpuidSupported = false) : execCpuid s = .fault .ud := by
  simp [execCpuid, finish, raise, hsup]

theorem execCpuid_of_vmxNonRoot (hsup : s.cfg.cpuidSupported = true) (hvmx : s.plat.vmxNonRoot = true) :
    execCpuid s = .refused .vmxNonRoot := by
  simp [execCpuid, finish, hsup, hvmx]

theorem execCpuid_of_bootNt4 (hsup : s.cfg.cpuidSupported = true) (hvmx : s.plat.vmxNonRoot = false)
    (hnt4 : bootNt4 s = true) : execCpuid s = .refused .bootNt4 := by
  simp [execCpuid, finish, hsup, hvmx, hnt4]

theorem execCpuid_of_repeatsLeaf02 (hsup : s.cfg.cpuidSupported = true) (hvmx : s.plat.vmxNonRoot = false)
    (hnt4 : bootNt4 s = false) (hrep : repeatsLeaf02 s = true) : execCpuid s = .refused .leaf02Repeat := by
  simp [execCpuid, finish, hsup, hvmx, hnt4, hrep]

theorem execCpuid_of_tests {rip : Qword} (hsup : s.cfg.cpuidSupported = true) (hvmx : s.plat.vmxNonRoot = false)
    (hnt4 : bootNt4 s = false) (hrep : repeatsLeaf02 s = false) (hrip : advancedRip s 2 = .ok rip) :
    execCpuid s = .next (cpuidNext s rip) := by
  simp [execCpuid, finish_eq_next, hsup, hvmx, hnt4, hrep, hrip]

/-- The only next state CPUID can answer. -/
theorem eq_cpuidNext_of_exec {t : State} (h : exec .cpuid s = .next t) : t = cpuidNext s (s.rip + 2) := by
  rw [exec_cpuid] at h
  obtain ⟨-, -, -, -, ht, -⟩ := execCpuid_next_cases h
  exact ht

end Tests

/-! What the state CPUID leaves holds (40_cpuid.md R120). -/

section Fields

variable (s : State) (rip : Qword)

@[simp] theorem cpuidNext_gpr : (cpuidNext s rip).gpr = writeQuad s.cfg.intel64 s.gpr (cpuidResult s) := by
  simp [cpuidNext]
@[simp] theorem cpuidNext_msr : (cpuidNext s rip).msr = { s.msr with biosSignId := updatedSignId s } := by
  simp [cpuidNext]
@[simp] theorem cpuidNext_ss : (cpuidNext s rip).ss = s.ss := by simp [cpuidNext]
@[simp] theorem cpuidNext_ds : (cpuidNext s rip).ds = s.ds := by simp [cpuidNext]
@[simp] theorem cpuidNext_es : (cpuidNext s rip).es = s.es := by simp [cpuidNext]
@[simp] theorem cpuidNext_fs : (cpuidNext s rip).fs = s.fs := by simp [cpuidNext]
@[simp] theorem cpuidNext_gs : (cpuidNext s rip).gs = s.gs := by simp [cpuidNext]
@[simp] theorem cpuidNext_tables : (cpuidNext s rip).tables = s.tables := by simp [cpuidNext]
@[simp] theorem cpuidNext_plat : (cpuidNext s rip).plat = s.plat := by simp [cpuidNext]
@[simp] theorem cpuidNext_cfg : (cpuidNext s rip).cfg = s.cfg := by simp [cpuidNext]

end Fields

/-! A 32-bit register written (40_cpuid.md R128). -/

@[simp] theorem writeReg32_intel64 (old : Qword) (v : Dword) : writeReg32 true old v = v.setWidth 64 := rfl

/-- On either kind of part the 32-bit register is the value written. -/
@[simp] theorem setWidth_writeReg32 (intel64 : Bool) (old : Qword) (v : Dword) :
    (writeReg32 intel64 old v).setWidth 32 = v := by
  cases intel64
  · exact BitVec.setWidth_append_eq_right
  · simp

/-- Off an Intel 64 processor the upper half stays. -/
@[simp] theorem writeReg32_ushiftRight (old : Qword) (v : Dword) : writeReg32 false old v >>> 32 = old >>> 32 := by
  refine BitVec.eq_of_getLsbD_eq fun i _ => ?_
  rw [BitVec.getLsbD_ushiftRight, BitVec.getLsbD_ushiftRight, writeReg32, if_neg Bool.false_ne_true,
    BitVec.getLsbD_append, if_neg (by omega), BitVec.getLsbD_extractLsb']
  have hlt : old.getLsbD (32 + i) = true → i < 32 := fun hb => by
    have := BitVec.lt_of_getLsbD hb
    omega
  simpa using hlt

/-- The upper half of IA32_BIOS_SIGN_ID on a part with the microcode update facility (40_cpuid.md R122). -/
theorem updatedSignId_upper {s : State} (h : s.cfg.microcodeFacility = true) :
    (updatedSignId s).extractLsb' 32 32 = s.cfg.microcodeSignature := by
  rw [updatedSignId, if_pos h]
  exact BitVec.extractLsb'_append_eq_left

theorem updatedSignId_of_no_facility {s : State} (h : s.cfg.microcodeFacility = false) :
    updatedSignId s = s.msr.biosSignId := by
  simp [updatedSignId, h]

/-- The answer is a function of the part, the dynamic inputs, EAX and ECX (40_cpuid.md R123). -/
theorem cpuidResult_congr {s s' : State} (hcfg : s.cfg = s'.cfg) (hdyn : dynOf s = dynOf s')
    (hleaf : leafInput s = leafInput s') (hsub : subleafInput s = subleafInput s') :
    cpuidResult s = cpuidResult s' := by
  rw [cpuidResult, hcfg, hdyn, hleaf, hsub, cpuidResult]

/-! ### The obligations on CPUID the instruction -/

/-- Settles O6: no test stops CPUID, and the state written out is `cpuidNext`. -/
theorem cpuidCompletesWithSelectedLeaf : Obligations.CpuidCompletesWithSelectedLeaf := by
  intro s hsup hvmx hnt4 hrep hroom
  exact execCpuid_of_tests hsup hvmx hnt4 (repeatsLeaf02_eq_false_iff.2 hrep) (advancedRip_of_room hroom)

/-- Settles O7: each of the four registers is a 32-bit write of its part of the answer. -/
theorem cpuidWritesAllFourRegisters : Obligations.CpuidWritesAllFourRegisters := by
  intro s t h q
  have hgpr : t.gpr = writeQuad s.cfg.intel64 s.gpr q := by
    rw [eq_cpuidNext_of_exec h, cpuidNext_gpr]
    rfl
  refine ⟨fun hintel64 => ?_, fun hother => ?_⟩
  · simp [hgpr, hintel64]
  · simp [hgpr, hother]

/-- Settles O8: the MSR CPUID leaves is `updatedSignId`. -/
theorem cpuidLoadsUpdateSignature : Obligations.CpuidLoadsUpdateSignature := by
  intro s t h
  rw [eq_cpuidNext_of_exec h, cpuidNext_msr]
  exact ⟨updatedSignId_upper, updatedSignId_of_no_facility⟩

/-- Settles O9: the test for the instruction comes first, and no later one raises. -/
theorem cpuidRaisesOnlyInvalidOpcode : Obligations.CpuidRaisesOnlyInvalidOpcode :=
  fun _ => ⟨rfl, execCpuid_of_unsupported, fun _ => execCpuid_fault_cases⟩

/-- Settles O10: `cpuidNext` field by field. -/
theorem cpuidFrame : Obligations.CpuidFrame := by
  intro s t h
  obtain rfl := eq_cpuidNext_of_exec h
  refine ⟨fun a => by rw [cpuidNext_mem], cpuidNext_eflags .., cpuidNext_cpl .., ?gpr, cpuidNext_cs ..,
    cpuidNext_ss .., cpuidNext_ds .., cpuidNext_es .., cpuidNext_fs .., cpuidNext_gs .., cpuidNext_cr .., ?msr,
    cpuidNext_tables .., cpuidNext_plat .., cpuidNext_cfg ..⟩
  case gpr => rw [cpuidNext_gpr, writeQuad]
  case msr => rw [cpuidNext_msr]

/-- Settles O11: the four 32-bit registers are those of the answer, which has these inputs alone. -/
theorem cpuidDependsOnlyOnItsInputs : Obligations.CpuidDependsOnlyOnItsInputs := by
  intro s s' t t' hcfg hdyn hleaf hsub h h'
  have hresult : cpuidResult s = cpuidResult s' := cpuidResult_congr hcfg hdyn hleaf hsub
  rw [eq_cpuidNext_of_exec h, eq_cpuidNext_of_exec h']
  simp [hresult]

/-- Settles O12: the tests in the order the model makes them. -/
theorem cpuidRefusalsOfTheSpec : Obligations.CpuidRefusalsOfTheSpec := by
  intro s hsup
  refine ⟨execCpuid_of_vmxNonRoot hsup, execCpuid_of_bootNt4 hsup, fun hvmx hnt4 hleaf02 hsel => ?_⟩
  have hrep : repeatsLeaf02 s = true := by
    rw [repeatsLeaf02, leafInput, low32, hsel, hleaf02]
    rfl
  exact execCpuid_of_repeatsLeaf02 hsup hvmx hnt4 hrep

end Sys2Proof.Machine

/-! ### CPUID: leaves -/

namespace Sys2Proof.Machine

/-! Which leaf an input selects (40_cpuid.md R124). -/

section Selection

variable {cfg : CpuidConfig} {a : Dword}

theorem selectLeaf_of_basic (h : a.toNat ≤ cfg.maxBasic.toNat) : selectLeaf cfg a = a :=
  if_pos (BitVec.le_def.2 h)

theorem selectLeaf_of_extended (hext : cfg.extImplemented = true) (hlo : 0x80000000 ≤ a.toNat)
    (hhi : a.toNat ≤ cfg.maxExt.toNat) : selectLeaf cfg a = a := by
  have hrange : cfg.extImplemented = true ∧ 0x80000000 ≤ a ∧ a ≤ cfg.maxExt :=
    ⟨hext, BitVec.le_def.2 hlo, BitVec.le_def.2 hhi⟩
  rw [selectLeaf, if_pos hrange, ite_self]

theorem selectLeaf_of_outside (hbasic : cfg.maxBasic.toNat < a.toNat)
    (hext : cfg.extImplemented = false ∨ a.toNat < 0x80000000 ∨ cfg.maxExt.toNat < a.toNat) :
    selectLeaf cfg a = cfg.maxBasic := by
  rw [selectLeaf, if_neg (by simpa [BitVec.le_def] using hbasic), if_neg]
  rintro ⟨himpl, hlo, hhi⟩
  have hlo' : 0x80000000 ≤ a.toNat := BitVec.le_def.1 hlo
  have hhi' : a.toNat ≤ cfg.maxExt.toNat := BitVec.le_def.1 hhi
  obtain h | h | h := hext
  · simp [himpl] at h
  · omega
  · omega

end Selection

/-! A leaf that no row records (40_cpuid.md R125 item 2, log 10). -/

section Unrecorded

variable {cfg : CpuidConfig}

theorem rowOf_eq_none {a : Dword} (h : ∀ r ∈ cfg.rows, r.leaf ≠ a) (c : Dword) : rowOf cfg a c = none := by
  rw [rowOf, Option.map_eq_none_iff, List.find?_eq_none]
  intro r hr
  simp [h r hr]

theorem rawLeaf_eq_zero {a c : Dword} (h : rowOf cfg a c = none) : rawLeaf cfg a c = Quad.zero := by
  rw [rawLeaf, h, Option.getD_none]

theorem leaf01_eq_zero (dyn : Dyn) (h : rowOf cfg 0x01 0 = none) : leaf01 cfg dyn = Quad.zero := by
  rw [leaf01, h]

theorem leaf04_eq_zero (c : Dword) (h : ∀ c, rawLeaf cfg 0x04 c = Quad.zero) : leaf04 cfg c = Quad.zero := by
  rw [leaf04, h 0, h c]
  exact ite_self Quad.zero

theorem leaf05_eq_zero (h : rawLeaf cfg 0x05 0 = Quad.zero) : leaf05 cfg = Quad.zero := by
  rw [leaf05, h]
  rfl

theorem leaf06_eq_zero (h : rawLeaf cfg 0x06 0 = Quad.zero) : leaf06 cfg = Quad.zero := by
  rw [leaf06, h]
  rfl

theorem leaf07_eq_zero (c : Dword) (h : rawLeaf cfg 0x07 0 = Quad.zero) : leaf07 cfg c = Quad.zero := by
  rw [leaf07, h, ite_self]

theorem leaf09_eq_zero (dyn : Dyn) (h : rowOf cfg 0x09 0 = none) : leaf09 cfg dyn = Quad.zero := by
  rw [leaf09, h]

theorem leaf0A_eq_zero (h : rawLeaf cfg 0x0A 0 = Quad.zero) : leaf0A cfg = Quad.zero := by
  rw [leaf0A, h]
  rfl

theorem leaf0B_eq_zero (dyn : Dyn) (c : Dword) (h : rowOf cfg 0x0B 0 = none) : leaf0B cfg dyn c = Quad.zero := by
  rw [leaf0B, h]

theorem leaf0D_eq_zero (dyn : Dyn) (c : Dword) (h : rowOf cfg 0x0D 0 = none) : leaf0D cfg dyn c = Quad.zero := by
  rw [leaf0D, h]

theorem leafQos_eq_zero {a : Dword} (c : Dword) (h : rowOf cfg a 0 = none) : leafQos cfg a c = Quad.zero := by
  rw [leafQos, h]

theorem leafExt1_eq_zero (h : rawLeaf cfg 0x80000001 0 = Quad.zero) : leafExt1 cfg = Quad.zero := by
  rw [leafExt1, h]
  rfl

/-- One branch of a chain of leaves: the leaf tested for, or the rest of the chain, answers four zeros. -/
theorem ite_eq_quadZero {p : Prop} [Decidable p] {q rest : Quad} (hq : p → q = Quad.zero) (hrest : rest = Quad.zero) :
    (if p then q else rest) = Quad.zero :=
  ite_eq_iff'.2 ⟨hq, fun _ => hrest⟩

/-- Every basic leaf but 00H is made from the rows of the leaf. -/
theorem basicLeaf_eq_zero (dyn : Dyn) {a : Dword} (c : Dword) (ha : a ≠ 0) (hrow : ∀ c, rowOf cfg a c = none) :
    basicLeaf cfg dyn a c = Quad.zero :=
  have hraw (c : Dword) : rawLeaf cfg a c = Quad.zero := rawLeaf_eq_zero (hrow c)
  ite_eq_quadZero (fun h => absurd h ha) <|
  ite_eq_quadZero (fun h => leaf01_eq_zero dyn (h ▸ hrow 0)) <|
  ite_eq_quadZero (fun h => h ▸ hraw 0) <|
  ite_eq_quadZero (fun h => h ▸ hraw 0) <|
  ite_eq_quadZero (fun h => leaf04_eq_zero c (h ▸ hraw)) <|
  ite_eq_quadZero (fun h => leaf05_eq_zero (h ▸ hraw 0)) <|
  ite_eq_quadZero (fun h => leaf06_eq_zero (h ▸ hraw 0)) <|
  ite_eq_quadZero (fun h => leaf07_eq_zero c (h ▸ hraw 0)) <|
  ite_eq_quadZero (fun _ => rfl) <|
  ite_eq_quadZero (fun h => leaf09_eq_zero dyn (h ▸ hrow 0)) <|
  ite_eq_quadZero (fun h => leaf0A_eq_zero (h ▸ hraw 0)) <|
  ite_eq_quadZero (fun h => leaf0B_eq_zero dyn c (h ▸ hrow 0)) <|
  ite_eq_quadZero (fun _ => rfl) <|
  ite_eq_quadZero (fun h => leaf0D_eq_zero dyn c (h ▸ hrow 0)) <|
  ite_eq_quadZero (fun _ => rfl) <|
  ite_eq_quadZero (fun h => leafQos_eq_zero c (h ▸ hrow 0)) <|
  ite_eq_quadZero (fun h => leafQos_eq_zero c (h ▸ hrow 0)) (hraw 0)

/-- Every extended leaf but 80000000H is made from the row of the leaf. -/
theorem extendedLeaf_eq_zero {a : Dword} (ha : a ≠ 0x80000000) (hraw : rawLeaf cfg a 0 = Quad.zero) :
    extendedLeaf cfg a = Quad.zero := by
  rw [extendedLeaf, hraw]
  exact
    ite_eq_quadZero (fun h => absurd h ha) <|
    ite_eq_quadZero (fun h => leafExt1_eq_zero (h ▸ hraw)) <|
    ite_eq_quadZero (fun _ => rfl) <|
    ite_eq_quadZero (fun _ => rfl) <|
    ite_eq_quadZero (fun _ => rfl) <|
    ite_eq_quadZero (fun _ => rfl) rfl

end Unrecorded

/-! ### The obligations on leaves -/

/-- Settles O13: in each of the three ranges `selectLeaf` gives the leaf named. -/
theorem leafSelectionRule : Obligations.LeafSelectionRule := by
  refine fun cfg dyn a c => ⟨fun hbasic => ?_, fun hext hlo hhi => ?_, fun hbasic hext => ?_⟩
  · rw [cpuidAnswer, selectLeaf_of_basic hbasic]
  · rw [cpuidAnswer, selectLeaf_of_extended hext hlo hhi]
  · rw [cpuidAnswer, selectLeaf_of_outside hbasic hext]

/-- Settles O15: without a row, every basic and every extended leaf but the two maxima is four zeros. -/
theorem unsupportedLeafAnswersZeros : Obligations.UnsupportedLeafAnswersZeros := by
  intro cfg dyn a c h0 hmax hrows
  have hrow := rowOf_eq_none hrows
  unfold leafData
  split_ifs
  · exact basicLeaf_eq_zero dyn c h0 hrow
  · exact extendedLeaf_eq_zero hmax (rawLeaf_eq_zero (hrow 0))

/-- Settles O14: the rule of leaf selection at the page's inputs, and 07H is in range without a row. -/
theorem coreI7LeafSelectionExamples : Obligations.CoreI7LeafSelectionExamples := by
  intro cfg dyn c hbasic hext hmax hrows
  have inBasic (a : Dword) (ha : a.toNat ≤ 0x0B) : cpuidAnswer cfg dyn a c = leafData cfg dyn a c :=
    (leafSelectionRule cfg dyn a c).1 (by simpa [hbasic] using ha)
  have outside (a : Dword) (hlo : 0x0B < a.toNat) (hout : a.toNat < 0x80000000 ∨ 0x80000008 < a.toNat) :
      cpuidAnswer cfg dyn a c = cpuidAnswer cfg dyn 0x0B c := by
    rw [inBasic 0x0B (by decide), ← hbasic]
    exact (leafSelectionRule cfg dyn a c).2.2 (by simpa [hbasic] using hlo) (.inr (by simpa [hmax] using hout))
  refine ⟨inBasic _ (by decide), inBasic _ (by decide), inBasic _ (by decide), outside _ (by decide) (by decide),
    ?ext, outside _ (by decide) (by decide), ?unsupported⟩
  case ext => exact (leafSelectionRule cfg dyn _ c).2.1 hext (by decide) (by simp [hmax])
  case unsupported =>
    rw [inBasic _ (by decide)]
    exact unsupportedLeafAnswersZeros cfg dyn _ c (by decide) (by decide) hrows

/-- Settles O24: of the basic leaves only the six take ECX, of the extended leaves none. -/
theorem subleafMattersInSixLeaves : Obligations.SubleafMattersInSixLeaves := by
  intro cfg dyn a c c' h04 h07 h0B h0D h0F h10
  have hbasic : basicLeaf cfg dyn a c = basicLeaf cfg dyn a c' := by
    simp only [basicLeaf, if_neg h04, if_neg h07, if_neg h0B, if_neg h0D, if_neg h0F, if_neg h10]
  rw [leafData, leafData, hbasic]

end Sys2Proof.Machine

/-! ### CPUID: the data of each leaf -/

namespace Sys2Proof.Machine

/-! The answer at a leaf in range, as the definition of that leaf (40_cpuid.md R124, R125). -/

section Answers

variable {cfg : CpuidConfig} {dyn : Dyn} {a c : Dword}

theorem cpuidAnswer_of_basic (h : a.toNat ≤ cfg.maxBasic.toNat) : cpuidAnswer cfg dyn a c = leafData cfg dyn a c :=
  (leafSelectionRule cfg dyn a c).1 h

theorem cpuidAnswer_leaf00 : cpuidAnswer cfg dyn 0x00 c = leaf00 cfg :=
  cpuidAnswer_of_basic (Nat.zero_le _)

theorem cpuidAnswer_leaf01 (h : 1 ≤ cfg.maxBasic.toNat) : cpuidAnswer cfg dyn 0x01 c = leaf01 cfg dyn :=
  cpuidAnswer_of_basic h

theorem cpuidAnswer_leaf04 (h : 4 ≤ cfg.maxBasic.toNat) : cpuidAnswer cfg dyn 0x04 c = leaf04 cfg c :=
  cpuidAnswer_of_basic h

theorem cpuidAnswer_leaf0B (h : 0x0B ≤ cfg.maxBasic.toNat) : cpuidAnswer cfg dyn 0x0B c = leaf0B cfg dyn c :=
  cpuidAnswer_of_basic h

theorem cpuidAnswer_leaf0D (h : 0x0D ≤ cfg.maxBasic.toNat) : cpuidAnswer cfg dyn 0x0D c = leaf0D cfg dyn c :=
  cpuidAnswer_of_basic h

end Answers

/-! Fields of a register as bit vectors. -/

theorem field_eq_toNat_extractLsb' (x : Dword) (hi lo : Nat) :
    field x hi lo = (x.extractLsb' lo (hi + 1 - lo)).toNat :=
  (BitVec.extractLsb'_toNat lo (hi + 1 - lo) x).symm

/-- A field of a masked register is 0 where the mask has no bit. -/
theorem field_and_eq_zero {m : Dword} {hi lo : Nat} (x : Dword) (h : field m hi lo = 0) :
    field (x &&& m) hi lo = 0 := by
  simp only [field, BitVec.toNat_and, Nat.shiftRight_and_distrib, Nat.and_mod_two_pow] at h ⊢
  rw [h, Nat.and_zero]

/-- Bits of two registers merged by masks come from the register whose mask has them. -/
theorem extractLsb'_merge {m n : Dword} {lo len : Nat} (x y : Dword) (hm : m.extractLsb' lo len = 0)
    (hn : n.extractLsb' lo len = BitVec.allOnes len) :
    ((x &&& m) ||| (y &&& n)).extractLsb' lo len = y.extractLsb' lo len := by
  rw [BitVec.extractLsb'_or, BitVec.extractLsb'_and, BitVec.extractLsb'_and, hm, hn, BitVec.and_allOnes]
  exact (congrArg (· ||| _) BitVec.and_zero).trans BitVec.zero_or

/-- The byte at each place of four packed bytes (41_cpuid_basic_leaves.md R152).  The library's rules on appended words
need the width as the sum that it is. -/
theorem extractLsb'_packBytes (b0 b1 b2 b3 : Byte) (j : Nat) (hj : j < 4) :
    (packBytes b0 b1 b2 b3).extractLsb' (8 * j) 8 = #v[b0, b1, b2, b3][j] := by
  change (b3 ++ b2 ++ b1 ++ b0 : BitVec (8 + 8 + 8 + 8)).extractLsb' (8 * j) 8 = _
  interval_cases j
  · exact BitVec.extractLsb'_append_eq_right
  · rw [BitVec.extractLsb'_append_eq_of_le (by decide)]
    exact BitVec.extractLsb'_append_eq_right
  · rw [BitVec.extractLsb'_append_eq_of_le (by decide), BitVec.extractLsb'_append_eq_of_le (by decide)]
    exact BitVec.extractLsb'_append_eq_right
  · rw [BitVec.extractLsb'_append_eq_of_le (by decide), BitVec.extractLsb'_append_eq_of_le (by decide)]
    exact BitVec.extractLsb'_append_eq_left

/-! Leaf 00H (41_cpuid_basic_leaves.md R151, R152). -/

/-- The constants the page gives for "GenuineIntel". -/
theorem packBytes_genuineIntel :
    packBytes genuineIntel[0] genuineIntel[1] genuineIntel[2] genuineIntel[3] = 0x756E6547 ∧
    packBytes genuineIntel[4] genuineIntel[5] genuineIntel[6] genuineIntel[7] = 0x49656E69 ∧
    packBytes genuineIntel[8] genuineIntel[9] genuineIntel[10] genuineIntel[11] = 0x6C65746E := by
  decide

/-! Leaf 01H (41_cpuid_basic_leaves.md R161, R163, R164). -/

theorem leaf01_of_row {cfg : CpuidConfig} {q : Quad} (dyn : Dyn) (h : rowOf cfg 0x01 0 = some q) :
    leaf01 cfg dyn =
      { eax := q.eax
        ebx := dyn.initialApicId ++ q.ebx.setWidth 24
        ecx := (q.ecx &&& 0x77FFFFFF) ||| (if dyn.osxsave then 0x08000000 else 0)
        edx := q.edx } := by
  rw [leaf01, h]

/-- The mask of OSXSAVE is bit 27 alone. -/
theorem getLsbD_osxsave (b : Bool) (i : Nat) :
    (if b = true then 0x08000000 else 0 : Dword).getLsbD i = (b && decide (i = 27)) := by
  cases b
  · simp
  · change (BitVec.twoPow 32 27).getLsbD i = decide (i = 27)
    rw [BitVec.getLsbD_twoPow]
    simp [eq_comm]

section Version

variable {cfg : CpuidConfig} {q : Quad}

theorem leaf01_ebx_getLsbD_of_lt (dyn : Dyn) (h : rowOf cfg 0x01 0 = some q) {i : Nat} (hi : i < 24) :
    (leaf01 cfg dyn).ebx.getLsbD i = (q.ebx.setWidth 24).getLsbD i := by
  rw [leaf01_of_row dyn h, BitVec.getLsbD_append, if_pos hi]

theorem leaf01_ecx_getLsbD (dyn : Dyn) (h : rowOf cfg 0x01 0 = some q) (i : Nat) :
    (leaf01 cfg dyn).ecx.getLsbD i =
      (q.ecx.getLsbD i && (0x77FFFFFF : Dword).getLsbD i || dyn.osxsave && decide (i = 27)) := by
  rw [leaf01_of_row dyn h, BitVec.getLsbD_or, BitVec.getLsbD_and, getLsbD_osxsave]

end Version

/-! Leaf 04H (41_cpuid_basic_leaves.md R186, R187). -/

theorem leaf04_of_invalid {cfg : CpuidConfig} {c : Dword} (h : leaf04Count cfg ≤ c.toNat) :
    leaf04 cfg c = Quad.zero :=
  if_neg h.not_gt

theorem leaf04_eax {cfg : CpuidConfig} {c : Dword} (h : c.toNat < leaf04Count cfg) :
    (leaf04 cfg c).eax = ((rawLeaf cfg 0x04 0).eax &&& 0xFC000000) ||| ((rawLeaf cfg 0x04 c).eax &&& 0x03FFFFFF) := by
  rw [leaf04, if_pos h]

theorem leaf04_cacheType {cfg : CpuidConfig} {c : Dword} (h : c.toNat < leaf04Count cfg) :
    (leaf04 cfg c).eax.extractLsb' 0 5 = (rawLeaf cfg 0x04 c).eax.extractLsb' 0 5 := by
  rw [leaf04_eax h]
  exact extractLsb'_merge _ _ (by decide) (by decide)

theorem leaf04_topology {cfg : CpuidConfig} {c : Dword} (h : c.toNat < leaf04Count cfg) :
    (leaf04 cfg c).eax.extractLsb' 26 6 = (rawLeaf cfg 0x04 0).eax.extractLsb' 26 6 := by
  rw [leaf04_eax h, BitVec.or_comm]
  exact extractLsb'_merge _ _ (by decide) (by decide)

/-! Leaf 0BH (41_cpuid_basic_leaves.md R200 to R205). -/

section Levels

variable {cfg : CpuidConfig} {c : Dword}

theorem leaf0B_of_valid (dyn : Dyn) (hrow : (rowOf cfg 0x0B 0).isSome = true) (h : c.toNat < leaf0BLevels cfg) :
    leaf0B cfg dyn c =
      { eax := (rawLeaf cfg 0x0B c).eax
        ebx := (rawLeaf cfg 0x0B c).ebx
        ecx := (rawLeaf cfg 0x0B c).ecx.extractLsb' 8 24 ++ c.setWidth 8
        edx := dyn.x2apicId } := by
  obtain ⟨q, hq⟩ := Option.isSome_iff_exists.1 hrow
  rw [leaf0B, hq]
  exact if_pos h

theorem leaf0B_of_invalid (dyn : Dyn) (hrow : (rowOf cfg 0x0B 0).isSome = true) (h : leaf0BLevels cfg ≤ c.toNat) :
    leaf0B cfg dyn c =
      { eax := 0, ebx := 0, ecx := levelHigh cfg c ++ (0 : Byte) ++ c.setWidth 8, edx := dyn.x2apicId } := by
  obtain ⟨q, hq⟩ := Option.isSome_iff_exists.1 hrow
  rw [leaf0B, hq]
  exact if_neg h.not_gt

/-- The level type stands above the echo of the input. -/
theorem extractLsb'_levelType (x : Dword) (low : Byte) :
    (x.extractLsb' 8 24 ++ low : Dword).extractLsb' 8 8 = x.extractLsb' 8 8 := by
  rw [BitVec.extractLsb'_append_eq_of_le (by decide)]
  ext i hi
  rw [BitVec.getElem_extractLsb', BitVec.getLsbD_extractLsb', BitVec.getElem_extractLsb', Nat.sub_self, Nat.zero_add,
    decide_eq_true (Nat.lt_trans hi (by decide)), Bool.true_and]

end Levels

/-! The first index at which a predicate holds (41_cpuid_basic_leaves.md R186, R203). -/

theorem eq_false_of_lt_firstIndex {p : Nat → Bool} {fuel k j : Nat} (hk : k ≤ j) (hj : j < firstIndex p fuel k) :
    p j = false := by
  induction fuel generalizing k with
  | zero => exact absurd hj (by simpa [firstIndex] using hk)
  | succ fuel ih =>
    rw [firstIndex] at hj
    split_ifs at hj with hp
    · omega
    · obtain rfl | hlt := hk.eq_or_lt
      · simpa using hp
      · exact ih hlt hj

/-- Below the first index whose field of the register is 0, the field is not 0. -/
theorem extractLsb'_ne_zero_of_lt_firstIndex {reg : Dword → Dword} {hi lo fuel : Nat} {c : Dword}
    (h : c.toNat < firstIndex (fun k => field (reg (BitVec.ofNat 32 k)) hi lo == 0) fuel 0) :
    (reg c).extractLsb' lo (hi + 1 - lo) ≠ 0 := by
  have hfield := eq_false_of_lt_firstIndex (Nat.zero_le _) h
  rw [beq_eq_false_iff_ne, BitVec.ofNat_toNat, BitVec.setWidth_eq, field_eq_toNat_extractLsb'] at hfield
  exact fun hzero => hfield (by rw [hzero]; rfl)

theorem cacheType_ne_zero {cfg : CpuidConfig} {c : Dword} (h : c.toNat < leaf04Count cfg) :
    (rawLeaf cfg 0x04 c).eax.extractLsb' 0 5 ≠ 0 :=
  extractLsb'_ne_zero_of_lt_firstIndex (reg := fun k => (rawLeaf cfg 0x04 k).eax) (hi := 4) (lo := 0) h

theorem levelType_ne_zero {cfg : CpuidConfig} {c : Dword} (h : c.toNat < leaf0BLevels cfg) :
    (rawLeaf cfg 0x0B c).ecx.extractLsb' 8 8 ≠ 0 :=
  extractLsb'_ne_zero_of_lt_firstIndex (reg := fun k => (rawLeaf cfg 0x0B k).ecx) (hi := 15) (lo := 8) h

/-! Leaf 0DH (41_cpuid_basic_leaves.md R209 to R215). -/

section Xsave

variable {cfg : CpuidConfig} {main : Quad}

theorem rawLeaf_of_rowOf {a c : Dword} {q : Quad} (h : rowOf cfg a c = some q) : rawLeaf cfg a c = q := by
  rw [rawLeaf, h, Option.getD_some]

theorem xsaveEnabledSize_le (xcr0 : Qword) : xsaveEnabledSize cfg xcr0 ≤ (rawLeaf cfg 0x0D 0).ecx := by
  unfold xsaveEnabledSize
  dsimp only
  split_ifs with hfull hle
  · exact BitVec.le_refl _
  · exact hle
  · exact BitVec.le_refl _

theorem xsaveEnabledSize_of_full {xcr0 : Qword} (h : ∀ i, (xcr0Valid cfg).getLsbD i = true → xcr0.getLsbD i = true) :
    xsaveEnabledSize cfg xcr0 = (rawLeaf cfg 0x0D 0).ecx := by
  refine if_pos (BitVec.eq_of_getLsbD_eq fun i _ => ?_)
  rw [BitVec.getLsbD_and, Bool.and_eq_right_iff_imp]
  exact h i

theorem leaf0D_main (dyn : Dyn) (h : rowOf cfg 0x0D 0 = some main) :
    leaf0D cfg dyn 0 = { rawLeaf cfg 0x0D 0 with ebx := xsaveEnabledSize cfg dyn.xcr0 } := by
  rw [leaf0D, h, rawLeaf_of_rowOf h]
  rfl

theorem leaf0D_extended (dyn : Dyn) (h : rowOf cfg 0x0D 0 = some main) :
    leaf0D cfg dyn 1 = { rawLeaf cfg 0x0D 1 with ebx := xsaveCompactSize cfg (dyn.xcr0 ||| dyn.xss) } := by
  rw [leaf0D, h]
  rfl

theorem leaf0D_of_invalid (dyn : Dyn) {c : Dword} (hc : 2 ≤ c.toNat) (h : xsaveSubleafValid cfg c.toNat = false) :
    leaf0D cfg dyn c = Quad.zero := by
  have h0 : c ≠ 0 := by rintro rfl; exact absurd hc (by decide)
  have h1 : c ≠ 1 := by rintro rfl; exact absurd hc (by decide)
  unfold leaf0D
  cases rowOf cfg 0x0D 0 with
  | none => rfl
  | some main => simp only [if_neg h0, if_neg h1, h, Bool.false_eq_true, if_false]

end Xsave

/-! The bits a leaf may set: all but the fields marked "Reserved = 0" (41_cpuid_basic_leaves.md R150). -/

section Reserved

/-- No register of `q` has a bit outside the same register of `m`. -/
structure QuadWithin (q m : Quad) : Prop where
  eax : q.eax &&& m.eax = q.eax
  ebx : q.ebx &&& m.ebx = q.ebx
  ecx : q.ecx &&& m.ecx = q.ecx
  edx : q.edx &&& m.edx = q.edx

/-- Four registers of ones. -/
def quadOnes : Quad := ⟨BitVec.allOnes 32, BitVec.allOnes 32, BitVec.allOnes 32, BitVec.allOnes 32⟩

theorem QuadWithin.outValue_and {q m : Quad} (h : QuadWithin q m) (r : OutReg) :
    outValue q r &&& outValue m r = outValue q r := by
  cases r with
  | eax => exact h.eax
  | ebx => exact h.ebx
  | ecx => exact h.ecx
  | edx => exact h.edx

theorem within_quadOnes (q : Quad) : QuadWithin q quadOnes :=
  ⟨BitVec.and_allOnes, BitVec.and_allOnes, BitVec.and_allOnes, BitVec.and_allOnes⟩

theorem quadZero_within (m : Quad) : QuadWithin Quad.zero m :=
  ⟨BitVec.zero_and, BitVec.zero_and, BitVec.zero_and, BitVec.zero_and⟩

/-- What a mask lets through is within the mask. -/
theorem and_and_mask (x m : Dword) : x &&& m &&& m = x &&& m := by
  rw [BitVec.and_assoc, BitVec.and_self]

/-- The bits of each register of a leaf that are in no "Reserved = 0" field (41_cpuid_basic_leaves.md R164 to R218,
43_cpuid_extended_leaves.md R257 to R268). -/
def settableBits (a : Dword) : Quad :=
  if a = 0x01 then { quadOnes with ecx := 0x7FFFFFFF }
  else if a = 0x04 then { quadOnes with edx := 0x00000007 }
  else if a = 0x05 then { quadOnes with eax := 0x0000FFFF, ebx := 0x0000FFFF }
  else if a = 0x06 then { quadOnes with ecx := 0x00000009, edx := 0 }
  else if a = 0x08 then Quad.zero
  else if a = 0x0A then { quadOnes with ebx := 0x0000007F, ecx := 0, edx := 0x00001FFF }
  else if a = 0x0C then Quad.zero
  else if a = 0x0E then Quad.zero
  else if a = 0x80000001 then { quadOnes with edx := 0x2C100FFF }
  else if a = 0x80000005 then Quad.zero
  else if a = 0x80000006 then { Quad.zero with ecx := BitVec.allOnes 32 }
  else if a = 0x80000007 then { Quad.zero with edx := 0x00000100 }
  else if a = 0x80000008 then { Quad.zero with eax := 0x0000FFFF }
  else quadOnes

variable (cfg : CpuidConfig) (dyn : Dyn)

theorem leaf01_within : QuadWithin (leaf01 cfg dyn) { quadOnes with ecx := 0x7FFFFFFF } := by
  cases hrow : rowOf cfg 0x01 0 with
  | none =>
    rw [leaf01_eq_zero dyn hrow]
    exact quadZero_within _
  | some q =>
    rw [leaf01_of_row dyn hrow]
    refine ⟨BitVec.and_allOnes, BitVec.and_allOnes, ?_, BitVec.and_allOnes⟩
    dsimp only
    cases dyn.osxsave <;> simp [BitVec.and_or_distrib_right, BitVec.and_assoc]

theorem leaf04_within (c : Dword) : QuadWithin (leaf04 cfg c) { quadOnes with edx := 0x00000007 } := by
  unfold leaf04
  split_ifs
  · exact ⟨BitVec.and_allOnes, BitVec.and_allOnes, BitVec.and_allOnes, and_and_mask _ _⟩
  · exact quadZero_within _

theorem leaf05_within : QuadWithin (leaf05 cfg) { quadOnes with eax := 0x0000FFFF, ebx := 0x0000FFFF } :=
  ⟨and_and_mask _ _, and_and_mask _ _, BitVec.and_allOnes, BitVec.and_allOnes⟩

theorem leaf06_within : QuadWithin (leaf06 cfg) { quadOnes with ecx := 0x00000009, edx := 0 } :=
  ⟨BitVec.and_allOnes, BitVec.and_allOnes, and_and_mask _ _, BitVec.and_zero⟩

theorem leaf0A_within : QuadWithin (leaf0A cfg) { quadOnes with ebx := 0x0000007F, ecx := 0, edx := 0x00001FFF } :=
  ⟨BitVec.and_allOnes, and_and_mask _ _, BitVec.and_zero, and_and_mask _ _⟩

theorem leafExt1_within : QuadWithin (leafExt1 cfg) { quadOnes with edx := 0x2C100FFF } :=
  ⟨BitVec.and_allOnes, BitVec.and_allOnes, BitVec.and_allOnes, and_and_mask _ _⟩

/-- One leaf of the table, or the rest of it. -/
theorem within_ite {p : Prop} [Decidable p] {q m rest : Quad} (hm : p → QuadWithin q m) (hrest : QuadWithin q rest) :
    QuadWithin q (if p then m else rest) := by
  split_ifs with hp
  · exact hm hp
  · exact hrest

/-- Every answer keeps within the bits its leaf may set, whatever the rows of the part are. -/
theorem leafData_within (a c : Dword) : QuadWithin (leafData cfg dyn a c) (settableBits a) :=
  within_ite (fun h => h ▸ leaf01_within cfg dyn) <|
  within_ite (fun h => h ▸ leaf04_within cfg c) <|
  within_ite (fun h => h ▸ leaf05_within cfg) <|
  within_ite (fun h => h ▸ leaf06_within cfg) <|
  within_ite (fun h => h ▸ quadZero_within _) <|
  within_ite (fun h => h ▸ leaf0A_within cfg) <|
  within_ite (fun h => h ▸ quadZero_within _) <|
  within_ite (fun h => h ▸ quadZero_within _) <|
  within_ite (fun h => h ▸ leafExt1_within cfg) <|
  within_ite (fun h => h ▸ quadZero_within _) <|
  within_ite (fun h => h ▸ ⟨BitVec.and_zero, BitVec.and_zero, BitVec.and_allOnes, BitVec.and_zero⟩) <|
  within_ite (fun h => h ▸ ⟨BitVec.and_zero, BitVec.and_zero, BitVec.and_zero, and_and_mask _ _⟩) <|
  within_ite (fun h => h ▸ ⟨and_and_mask _ _, BitVec.and_zero, BitVec.and_zero, BitVec.and_zero⟩) <|
  within_quadOnes _

/-- The table against the field tables: no "Reserved = 0" field has a bit in it. -/
theorem field_settableBits_eq_zero :
    ∀ f ∈ leafFields, f.kind = .reservedZero → field (outValue (settableBits f.leaf) f.reg) f.hi f.lo = 0 := by
  decide +kernel

end Reserved

/-! ### The obligations on the data of each leaf -/

/-- Settles O17: character k is byte k mod 4 of a register of leaf 00H. -/
theorem vendorStringPacking : Obligations.VendorStringPacking := by
  intro cfg dyn c
  rw [cpuidAnswer_leaf00]
  refine ⟨rfl, fun k hk => ?_, fun hvendor => ?_⟩
  · interval_cases k <;> exact extractLsb'_packBytes _ _ _ _ _ (by decide)
  · simp only [leaf00, hvendor]
    exact packBytes_genuineIntel

/-- Settles O18: the row of the part gives every bit but the initial APIC ID and OSXSAVE. -/
theorem versionLeafDynamicBits : Obligations.VersionLeafDynamicBits := by
  intro cfg dyn dyn' c hmax hrow
  obtain ⟨q, hq⟩ := Option.isSome_iff_exists.1 hrow
  rw [cpuidAnswer_leaf01 hmax, cpuidAnswer_leaf01 hmax]
  refine ⟨?apicId, ?bit31, ?osxsave, ?eax, ?edx, fun i hi => ?ebx, fun i hi => ?ecx⟩
  case apicId =>
    rw [leaf01_of_row dyn hq]
    exact BitVec.extractLsb'_append_eq_left
  case bit31 =>
    rw [leaf01_ecx_getLsbD dyn hq]
    simp
  case osxsave =>
    rw [leaf01_ecx_getLsbD dyn hq]
    simp
  case eax => rw [leaf01_of_row dyn hq, leaf01_of_row dyn' hq]
  case edx => rw [leaf01_of_row dyn hq, leaf01_of_row dyn' hq]
  case ebx => rw [leaf01_ebx_getLsbD_of_lt dyn hq hi, leaf01_ebx_getLsbD_of_lt dyn' hq hi]
  case ecx => simp [leaf01_ecx_getLsbD dyn hq, leaf01_ecx_getLsbD dyn' hq, hi]

/-- Settles O19: leaf 04H is zero from its count on, and below it takes EAX[31:26] from index 0. -/
theorem cacheLeafIndexes : Obligations.CacheLeafIndexes := by
  intro cfg dyn c hmax
  rw [cpuidAnswer_leaf04 hmax, cpuidAnswer_leaf04 hmax]
  refine ⟨leaf04_of_invalid, fun hc => ⟨?_, ?_⟩⟩
  · rw [leaf04_cacheType hc]
    exact cacheType_ne_zero hc
  · have h0 : (0 : Dword).toNat < leaf04Count cfg := Nat.zero_lt_of_lt hc
    rw [leaf04_topology hc, leaf04_topology h0]

/-- Settles O20: on either side of the first invalid level, the level type stands in ECX[15:8] above the echo. -/
theorem topologyLeafLevels : Obligations.TopologyLeafLevels := by
  intro cfg dyn c hmax hrow
  rw [cpuidAnswer_leaf0B hmax]
  obtain hc | hc := lt_or_ge c.toNat (leaf0BLevels cfg)
  · rw [leaf0B_of_valid dyn hrow hc]
    refine ⟨BitVec.extractLsb'_append_eq_right, rfl, fun h => absurd hc h.not_gt, fun _ => ?_⟩
    rw [extractLsb'_levelType]
    exact levelType_ne_zero hc
  · rw [leaf0B_of_invalid dyn hrow hc]
    refine ⟨BitVec.extractLsb'_append_eq_right, rfl, fun _ => ⟨rfl, rfl, ?_⟩, fun h => absurd h hc.not_gt⟩
    rw [BitVec.extractLsb'_append_eq_of_le (by decide)]
    exact BitVec.extractLsb'_append_eq_right

/-- Settles O21: the two reported vectors are the ones that validity is read from. -/
theorem xsaveLeafInvalidSubleafAnswersZeros : Obligations.XsaveLeafInvalidSubleafAnswersZeros := by
  intro cfg dyn c hmax hc
  simp only [cpuidAnswer_leaf0D hmax]
  cases hrow : rowOf cfg 0x0D 0 with
  | none => exact fun _ _ => leaf0D_eq_zero dyn c hrow
  | some main =>
    rw [leaf0D_main dyn hrow, leaf0D_extended dyn hrow]
    intro hxcr0 hxss
    exact leaf0D_of_invalid dyn hc (Bool.or_eq_false_iff.2 ⟨hxcr0, hxss⟩)

/-- Settles O22: EBX of sub-leaf 0 is the bounded size, and leaf 0DH without a row is four zeros. -/
theorem xsaveAreaSizeIsBounded : Obligations.XsaveAreaSizeIsBounded := by
  intro cfg dyn hmax
  rw [cpuidAnswer_leaf0D hmax]
  cases hrow : rowOf cfg 0x0D 0 with
  | none =>
    rw [leaf0D_eq_zero dyn 0 hrow]
    exact ⟨Nat.le_refl _, fun _ => rfl⟩
  | some main =>
    rw [leaf0D_main dyn hrow]
    exact ⟨BitVec.le_def.1 (xsaveEnabledSize_le dyn.xcr0), xsaveEnabledSize_of_full⟩

/-- Settles O23: the answer is within the settable bits, and these have none in a "Reserved = 0" field. -/
theorem reservedZeroFieldsReadZero : Obligations.ReservedZeroFieldsReadZero := by
  intro cfg dyn c f hf hkind
  rw [FieldRow.read, ← (leafData_within cfg dyn f.leaf c).outValue_and f.reg]
  exact field_and_eq_zero _ (field_settableBits_eq_zero f hf hkind)

/-- Settles O16: the four leaves are zero in range, and 0CH just above the highest basic leaf is out of range. -/
theorem reservedLeavesAnswerZeros : Obligations.ReservedLeavesAnswerZeros := by
  intro cfg dyn c
  refine ⟨fun h => cpuidAnswer_of_basic h, fun h => cpuidAnswer_of_basic h, fun h => ?_,
    fun h => cpuidAnswer_of_basic h, fun hext h => ?_⟩
  · have hout := (leafSelectionRule cfg dyn 0x0C c).2.2 (by rw [h]; decide) (.inr (.inl (by decide)))
    rwa [h] at hout
  · exact (leafSelectionRule cfg dyn 0x80000005 c).2.1 hext (by decide) h

end Sys2Proof.Machine

/-! ### The descriptor bytes of leaf 02H -/

namespace Sys2Proof.Machine

/-! The values in the rows of Table 3-22 (42_cpuid_leaf2_descriptors.md R231 to R233): they rise from row to row, so
that as many bytes have a meaning as the table has rows. -/

/-- The "Value" column of Table 3-22, as numbers. -/
def describedValues : List Nat := descriptorTable.map fun r => r.1.toNat

theorem length_descriptorTable : descriptorTable.length = 105 := by
  have h1 : descriptorTable1.length = 39 := rfl
  have h2 : descriptorTable2.length = 41 := rfl
  have h3 : descriptorTable3.length = 25 := rfl
  rw [descriptorTable, List.length_append, List.length_append, h1, h2, h3]

/-- The values rise within each part of the table and from the last row of a part to the first row of the next. -/
theorem describedValues_sortedLT : describedValues.SortedLT := by
  have h1 : (descriptorTable1.map fun r => r.1.toNat).IsChain (· < ·) := by decide
  have h2 : (descriptorTable2.map fun r => r.1.toNat).IsChain (· < ·) := by decide
  have h3 : (descriptorTable3.map fun r => r.1.toNat).IsChain (· < ·) := by decide
  rw [List.sortedLT_iff_isChain, describedValues, descriptorTable, List.map_append, List.map_append]
  exact (h1.append h2 (by decide)).append h3 (by decide)

theorem descriptorMeaning_isSome_iff {d : Byte} : (descriptorMeaning d).isSome ↔ d.toNat ∈ describedValues := by
  simp only [descriptorMeaning, Option.isSome_map, List.find?_isSome, beq_iff_eq, describedValues, List.mem_map,
    BitVec.toNat_inj]

theorem mem_filter_described_iff {v : Nat} :
    v ∈ (List.range 256).filter (fun v => (descriptorMeaning (BitVec.ofNat 8 v)).isSome) ↔ v ∈ describedValues := by
  rw [List.mem_filter, List.mem_range, descriptorMeaning_isSome_iff, BitVec.toNat_ofNat]
  constructor
  · rintro ⟨hv, hmem⟩
    rwa [Nat.mod_eq_of_lt hv] at hmem
  · intro hmem
    have hv : v < 256 := by
      obtain ⟨r, -, rfl⟩ := List.mem_map.1 hmem
      exact r.1.isLt
    exact ⟨hv, by rwa [Nat.mod_eq_of_lt hv]⟩

theorem filter_described_perm :
    ((List.range 256).filter fun v => (descriptorMeaning (BitVec.ofNat 8 v)).isSome).Perm describedValues :=
  (List.perm_ext_iff_of_nodup (List.nodup_range.filter _) describedValues_sortedLT.nodup).2
    fun _ => mem_filter_described_iff

/-- Settles O25: the described bytes are the 105 values of the table's rows, and the others are the rest of 256. -/
theorem descriptorBytesWithoutMeaning : Obligations.DescriptorBytesWithoutMeaning := by
  have hsome : ((List.range 256).filter fun v => (descriptorMeaning (BitVec.ofNat 8 v)).isSome).length = 105 := by
    rw [filter_described_perm.length_eq, describedValues, List.length_map, length_descriptorTable]
  have hsplit := (List.range 256).length_eq_length_filter_add
    fun v => (descriptorMeaning (BitVec.ofNat 8 v)).isSome
  simp only [Option.not_isSome, List.length_range, hsome] at hsplit
  exact ⟨hsome, by omega⟩

end Sys2Proof.Machine

/-! ### The flags an interrupt return loads -/

namespace Sys2Proof.Machine

/-- A load under a mask of writable bits: the image's bits under it, the old value's named bits beside it (45_iret.md
R341). -/
theorem loadFlags_eq {sup : Bool} {mask : Dword} (h : mask &&& writableMask sup = mask) (old image : Dword) :
    loadFlags sup mask old image = (old &&& (maskNamed &&& ~~~mask)) ||| (image &&& mask) := by
  have hwritable : writableMask sup &&& maskNamed = writableMask sup := by cases sup <;> decide
  have hnamed : mask &&& maskNamed = mask := by rw [← h, BitVec.and_assoc, hwritable]
  simp only [loadFlags, h]
  rw [BitVec.and_comm, BitVec.and_or_distrib_left, BitVec.and_comm maskNamed (image &&& mask), BitVec.and_assoc, hnamed,
    BitVec.and_comm maskNamed (old &&& ~~~mask), BitVec.and_assoc, BitVec.and_comm (~~~mask)]

/-- Each flag that a same-level mask holds (45_iret.md R340). -/
theorem sameLevelMask_flag (sz : OpSize) (cpl iopl : BitVec 2) (f : Flag) :
    (sameLevelMask sz cpl iopl).getLsbD f.bit = sameLevelLoads sz cpl iopl f := by
  simp only [sameLevelMask, BitVec.getLsbD_or, getLsbD_maskIf]
  cases f <;> simp [Flag.bit, maskA, maskB, maskI, maskP, maskV, sameLevelLoads]

/-- The bits of IOPL that a same-level mask holds (45_iret.md R340). -/
theorem sameLevelMask_iopl (sz : OpSize) (cpl iopl : BitVec 2) {i : Nat} (hi : i = 12 ∨ i = 13) :
    (sameLevelMask sz cpl iopl).getLsbD i = (cpl == 0) := by
  simp only [sameLevelMask, BitVec.getLsbD_or, getLsbD_maskIf]
  obtain rfl | rfl := hi <;> simp [maskA, maskB, maskI, maskP, maskV]

/-- An outer-level return loads what a same-level one does, and VM at CPL 0 with operand size 32 (45_iret.md R351). -/
theorem outerLevelMask_eq (sz : OpSize) (cpl iopl : BitVec 2) :
    outerLevelMask sz cpl iopl = sameLevelMask sz cpl iopl ||| maskIf (cpl == 0 && sz == .w32) maskM := rfl

theorem outerLevelMask_flag (sz : OpSize) (cpl iopl : BitVec 2) (f : Flag) :
    (outerLevelMask sz cpl iopl).getLsbD f.bit = outerLevelLoads sz cpl iopl f := by
  rw [outerLevelMask_eq, BitVec.getLsbD_or, sameLevelMask_flag, getLsbD_maskIf]
  cases f <;> simp [Flag.bit, maskM, sameLevelLoads, outerLevelLoads]

theorem outerLevelMask_iopl (sz : OpSize) (cpl iopl : BitVec 2) {i : Nat} (hi : i = 12 ∨ i = 13) :
    (outerLevelMask sz cpl iopl).getLsbD i = (cpl == 0) := by
  rw [outerLevelMask_eq, BitVec.getLsbD_or, sameLevelMask_iopl sz cpl iopl hi, getLsbD_maskIf]
  obtain rfl | rfl := hi <;> simp [maskM]

/-- IOPL after a load whose mask holds it at CPL 0 only (45_iret.md R340, R351). -/
theorem ioplOf_flagsLoaded (s : State) {mask : Dword} (image : Dword)
    (h : ∀ i, i = 12 ∨ i = 13 → mask.getLsbD i = (s.cpl == 0)) :
    ioplOf (flagsLoaded s mask image) = if s.cpl = 0 then ioplOf image else ioplOf s.eflags := by
  rw [flagsLoaded, ioplOf_loadFlags _ _ _ _ (s.cpl == 0) (h 12 (.inl rfl)) (h 13 (.inr rfl))]
  simp

/-- A flag that a load of the flags changes is under its mask. -/
theorem mask_of_flag_changed {s : State} {mask image : Dword} {f : Flag}
    (h : flagOf (flagsLoaded s mask image) f ≠ flagOf s.eflags f) : mask.getLsbD f.bit = true := by
  rw [flagOf_flagsLoaded] at h
  split_ifs at h with hm
  · exact hm.1
  · exact absurd rfl h

end Sys2Proof.Machine

/-! ### Interrupt return: real-address mode -/

namespace Sys2Proof.Machine

section RealAddress

variable {s : State} {sz : OpSize} {first count : Nat}

/-- Neither translation nor alignment checking raises anything in real-address mode (60_exceptions.md R381). -/
theorem frameFaults_of_realAddress (hm : modeOf s = .realAddress) : frameFaults s sz first count = [] := by
  have halign (a : Qword) (n : Nat) : misaligned s a n = false := by simp [misaligned, alignmentChecked, hm]
  have hpage (a : Qword) (n : Nat) : pageFaults s a n = false := by simp [pageFaults, translate, hm]
  simp [frameFaults, halign, hpage]

/-- Outside 64-bit mode the stack test is that of the limit (20_memory.md R67). -/
theorem stackTest_of_withinStackLimits (code : ErrorCode) (hb : inBits64 s = false)
    (h : withinStackLimits s (first * sz.bytes) (count * sz.bytes) = true) : stackTest s sz first count code = [] := by
  simp [stackTest, hb, h]

theorem interruptReturn_of_realAddress (hx : s.plat.vmxNonRoot = false) (hm : modeOf s = .realAddress) :
    interruptReturn s sz = realAddressReturn s sz := by
  simp [interruptReturn, hx, hm]

/-- A frame inside the stack limits with a 16-bit instruction pointer inside the code segment's limit completes a return
in real-address mode (45_iret.md R311, R312). -/
theorem realAddressReturn_of_good (hm : modeOf s = .realAddress)
    (hstack : withinStackLimits s 0 (3 * sz.bytes) = true) (hapic : frameTouchesApic s sz 0 3 = false)
    (hlimit : (frameIp s sz).toNat ≤ s.cs.hidden.limit.toNat) (hlow : (frameIp s sz).toNat < 2 ^ 16) :
    realAddressReturn s sz = .ok (realAddressNext s sz) := by
  have htest : stackTest s sz 0 3 .none = [] :=
    stackTest_of_withinStackLimits _ (by simp [inBits64, hm]) (by simpa using hstack)
  have hip : badRealIp s sz = false := by
    simp only [badRealIp, withinCsLimit, hlimit, decide_true, Bool.not_true, Bool.false_or, decide_eq_false_iff_not]
    omega
  have hpop : popGroup s sz 0 3 (realSegmentTests s sz) = .ok () :=
    popGroup_eq_ok.2 ⟨realSegmentTests_eq_nil.2 ⟨htest, fun _ => hip⟩, frameFaults_of_realAddress hm, hapic⟩
  rw [realAddressReturn, hpop]
  rfl

end RealAddress

/-- Settles O27: the item is 16 bits wide, and the named bits beside bits 15:0 are 3F0000H. -/
theorem realModeIretCompletes : Obligations.RealModeIretCompletes := by
  intro s hm hx hstack hapic hlimit
  have hflags (image : Dword) :
      flagsLoaded s (realMask .w16) image = (s.eflags &&& 0x003F0000) ||| (image &&& 0x00007FD5) :=
    loadFlags_eq (by cases s.cfg.cpuidSupported <;> decide) _ _
  rw [exec_of_returnSize rfl (by simp), interruptReturn_of_realAddress hx hm,
    realAddressReturn_of_good (sz := .w16) hm hstack hapic hlimit (frameItem_toNat_lt s .w16 0), ← hflags]
  rfl

/-- Settles O28: on a part with CPUID every bit of 257FD5H is writable, and the other named bits are 1A0000H. -/
theorem realModeIretdCompletes : Obligations.RealModeIretdCompletes := by
  intro s hm hx hsup hstack hapic hlimit hlow
  have hflags (image : Dword) :
      flagsLoaded s (realMask .w32) image = (image &&& 0x00257FD5) ||| (s.eflags &&& 0x001A0000) := by
    rw [BitVec.or_comm, flagsLoaded, hsup]
    exact loadFlags_eq (by decide) _ _
  rw [exec_of_returnSize rfl (by simp), interruptReturn_of_realAddress hx hm,
    realAddressReturn_of_good (sz := .w32) hm hstack hapic hlimit hlow, ← hflags]
  rfl

end Sys2Proof.Machine

/-! ### Interrupt return: virtual-8086 mode -/

namespace Sys2Proof.Machine

section Virtual8086

variable {s : State} {sz : OpSize}

/-- With IOPL below 3 nothing is popped (45_iret.md R317). -/
theorem virtual8086Return_of_low_iopl (hv : s.cr.vme = false) (hi : ioplOf s.eflags ≠ 3) :
    virtual8086Return s sz = .error (.fault (.gp .zero)) := by
  have htrap : (ioplOf s.eflags != 3) = true := bne_iff_ne.2 hi
  rw [virtual8086Return, hv, htrap]
  rfl

/-- A frame on the stack whose instruction pointer is inside the code segment's limit completes a return in virtual-8086
mode (45_iret.md R316). -/
theorem virtual8086Return_of_good (hv : s.cr.vme = false) (hi : ioplOf s.eflags = 3) (hs : FrameOnStack s sz 0 3)
    (hr : FrameReadable s sz 0 3) (hlimit : (frameIp s sz).toNat ≤ s.cs.hidden.limit.toNat) :
    virtual8086Return s sz = .ok (virtual8086Next s sz) := by
  have hpop : popGroup s sz 0 3 (v86SegmentTests s sz) = .ok () :=
    popGroup_eq_ok.2 ⟨v86SegmentTests_eq_nil.2 ⟨hs, fun _ => decide_eq_true hlimit⟩, hr⟩
  rw [virtual8086Return, hv, hi, hpop]
  rfl

/-- An instruction pointer outside the limit is found on the image read ahead (45_iret.md R316). -/
theorem virtual8086Return_of_bad_ip (hv : s.cr.vme = false) (hi : ioplOf s.eflags = 3) (hs : FrameOnStack s sz 0 3)
    (hr : FrameReadable s sz 0 3) (hlimit : s.cs.hidden.limit.toNat < (frameIp s sz).toNat) :
    virtual8086Return s sz = .error (.fault (.gp .zero)) := by
  obtain ⟨hf, ha⟩ := hr
  have hahead : readsIpAhead s sz = true := readsIpAhead_of_popped (by decide) hf ha
  have hip : withinCsLimit s.cs.hidden.limit (frameIp s sz) = false := decide_eq_false (Nat.not_le.2 hlimit)
  have htests : v86SegmentTests s sz = [.gp .zero] := by
    have hs : stackTest s sz 0 3 .zero = [] := hs
    simp [v86SegmentTests, hs, hahead, hip]
  simp [virtual8086Return, hv, hi, htests, popGroup_of_one_test _ hf]

end Virtual8086

/-- Settles O30: the test of IOPL comes before the pops. -/
theorem virtual8086ReturnNeedsIopl3 : Obligations.Virtual8086ReturnNeedsIopl3 := by
  intro s i sz hm hx hv hi hz hiopl
  rw [exec_of_returnSize hi (absurd · hz), interruptReturn_of_virtual8086 hx hm, virtual8086Return_of_low_iopl hv hiopl]
  rfl

/-- Settles O31: A and I are 4FD5H, with B 254FD5H. -/
theorem virtual8086ReturnCompletes : Obligations.Virtual8086ReturnCompletes := by
  intro s i sz hm hx hv hi hz hiopl hs hr hlimit
  have hmask : v86Mask sz = if sz = .w16 then 0x00004FD5 else 0x00254FD5 := by cases sz <;> rfl
  rw [exec_of_returnSize hi (absurd · hz), interruptReturn_of_virtual8086 hx hm,
    virtual8086Return_of_good hv hiopl hs hr hlimit, ← hmask]
  rfl

end Sys2Proof.Machine

/-! ### Interrupt return: task return, nested task, LOCK -/

namespace Sys2Proof.Machine

section TaskReturn

variable {s : State} {sz : OpSize}

theorem tableEntry_eq_none_of_global {sel : Word} (hl : isLocal sel = false)
    (h : s.tables.gdt.length ≤ indexOf sel) : tableEntry s sel = none := by
  simp [tableEntry, hl, h]

theorem indexOf_eq_toNat_ushiftRight (sel : Word) : indexOf sel = (sel >>> 3).toNat := by
  have hlt : sel.toNat < 2 ^ 16 := sel.isLt
  rw [indexOf, BitVec.extractLsb'_toNat, BitVec.toNat_ushiftRight, Nat.shiftRight_eq_div_pow]
  omega

theorem protectedModeReturn_of_nt (h : flagOf s.eflags .nt = true) : protectedModeReturn s sz = taskReturn s := by
  rw [protectedModeReturn, if_pos h]

theorem taskReturn_of_no_entry (h : (isLocal s.tables.tssLink || (tableEntry s s.tables.tssLink).isNone) = true) :
    taskReturn s = .error (.fault (.ts s.tables.tssLink)) := by
  simp only [taskReturn, h, raiseIf_true, Result.error_bind]

/-- Past the table the checks are those of the TSS descriptor's type and presence (45_iret.md R320). -/
theorem taskReturn_of_fetched {d : Descriptor} (hl : isLocal s.tables.tssLink = false)
    (hd : Fetchable s s.tables.tssLink d) :
    taskReturn s = (do
      raiseIf (d.kind != .tss true) (.ts s.tables.tssLink)
      raiseIf (!d.present) (.np s.tables.tssLink)
      .error (.refuse .taskSwitch)) := by
  obtain ⟨e, he, -⟩ := tableEntry_of_fetchFaults hd.1
  simp [taskReturn, hl, he, hd.fetchDescriptor_eq]

end TaskReturn

/-- Settles O32: the checks on the TSS in the order the model makes them. -/
theorem taskReturnChecks : Obligations.TaskReturnChecks := by
  intro s i sz hm hx hi hz hnt
  rw [exec_of_returnSize hi (absurd · hz), interruptReturn_of_protectedMode hx hm, protectedModeReturn_of_nt hnt]
  refine ⟨fun hbeyond => ?_, fun d hlocal hd => ?_⟩
  · rw [taskReturn_of_no_entry]
    · rfl
    · cases hlocal : isLocal s.tables.tssLink
      · have hindex := hbeyond.resolve_left (Bool.eq_false_iff.1 hlocal)
        rw [← indexOf_eq_toNat_ushiftRight] at hindex
        simp [tableEntry_eq_none_of_global hlocal hindex]
      · rfl
  · rw [taskReturn_of_fetched hlocal hd]
    refine ⟨fun hk => ?_, fun hk hp => ?_, fun hk hp => ?_⟩
    · rw [bne_iff_ne.2 hk]
      rfl
    · rw [hk, hp]
      rfl
    · rw [hk, hp]
      rfl

/-- Settles O33: NT is tested before the pops. -/
theorem nestedTaskFaultsInIa32e : Obligations.NestedTaskFaultsInIa32e := by
  intro s i sz hm hx hi hnt
  have hmode : modeOf s = .compatibility ∨ modeOf s = .bits64 := hm.imp And.left id
  rw [exec_of_returnSize hi (inBits64_of_w64 (hm.imp (And.imp_left .inr) id)), interruptReturn_of_ia32e hx hmode,
    ia32eReturn, hnt]
  rfl

/-- Settles O26: a LOCK form raises #UD whatever the state. -/
theorem lockedInterruptReturnsRaiseUd : Obligations.LockedInterruptReturnsRaiseUd := fun _ _ => ⟨rfl, rfl⟩

end Sys2Proof.Machine

/-! ### Interrupt return: the checks in protected and IA-32e mode -/

namespace Sys2Proof.Machine

/-! Protected mode and IA-32e mode make the same checks on the return code segment; IA-32e mode ranks the causes of its
first #GP(0) among them (45_iret.md R321 to R329, R357, R358). -/

/-- The exceptions of IA-32e mode where the descriptor of the return code segment cannot be had; none in protected
mode. -/
def unfetchedFaults (s : State) (sz : OpSize) : List Fault := if s.msr.lma then ia32eUnfetchedFaults s sz else []

/-- Causes 2 to 5 of the first #GP(0) of IA-32e mode; none in protected mode. -/
def firstFaults (s : State) (sz : OpSize) (d : Descriptor) : List Fault :=
  if s.msr.lma then ia32eFirstFaults s sz d else []

/-- The checks of a return after its pops, in either mode: `checkedReturn_of_protectedMode`,
`checkedReturn_of_ia32e`. -/
def checkedReturn (s : State) (sz : OpSize) : Result State := do
  raiseIf (isNull (frameCs s sz)) (.gp .zero)
  raiseOneOf s (unfetchedFaults s sz)
  let d ← fetchDescriptor s (frameCs s sz)
  raiseOneOf s (firstFaults s sz d ++ codeSegmentFaults s (frameCs s sz) d)
  privilegeReturn s sz d

section Checks

variable {s : State} {i : Instr} {sz : OpSize} {d : Descriptor}

theorem checkedReturn_of_protectedMode (hl : s.msr.lma = false) :
    checkedReturn s sz = protectedModeCheckedReturn s sz := by
  simp [checkedReturn, protectedModeCheckedReturn, unfetchedFaults, firstFaults, hl]

theorem checkedReturn_of_ia32e (hl : s.msr.lma = true) : checkedReturn s sz = ia32eCheckedReturn s sz := by
  simp [checkedReturn, ia32eCheckedReturn, unfetchedFaults, firstFaults, hl]

/-- A return that has popped its first group goes on to the checks. -/
theorem PoppedForChecks.exec_eq_checkedReturn (h : PoppedForChecks s i sz) :
    exec i s = finish (checkedReturn s sz) := by
  have hpop := popGroup_of_readable h.onStack h.readable
  rw [exec_of_returnSize h.size (inBits64_of_w64 h.mode)]
  congr 1
  have hia32e (hm : modeOf s = .compatibility ∨ modeOf s = .bits64) : interruptReturn s sz = checkedReturn s sz := by
    rw [interruptReturn_of_ia32e h.vmx hm, ia32eReturn, h.nt, hpop, checkedReturn_of_ia32e (lma_of_ia32e hm)]
    rfl
  obtain ⟨hm | hm, hz⟩ | hm := h.mode
  · have hvm : ¬(flagOf (frameFlags s sz) .vm && s.cpl == 0) = true := by
      rw [Bool.and_eq_true, beq_iff_eq]
      rintro ⟨hvm, hcpl⟩
      simp [h.notToV86 hm hcpl] at hvm
    obtain ⟨-, hl, -⟩ := modeOf_eq_protectedMode_iff.1 hm
    rw [ia32eItems_of_ne_w64 hz] at hpop
    rw [interruptReturn_of_protectedMode h.vmx hm, protectedModeReturn, if_neg (by simp [h.nt]), hpop, Result.ok_bind,
      if_neg hvm, checkedReturn_of_protectedMode hl]
  · exact hia32e (.inl hm)
  · exact hia32e (.inr hm)

/-- IRETQ is executed in 64-bit mode (30_encoding.md R93). -/
theorem PoppedForChecks.mode_of_w64 (h : PoppedForChecks s i .w64) : modeOf s = .bits64 :=
  h.mode.resolve_left fun hm => hm.2 rfl

/-! The fetch of the return code segment's descriptor. -/

theorem nullSsNeverLegal_iff : nullSsNeverLegal s sz = true ↔ NullSsNeverLegal s sz := by
  simp [nullSsNeverLegal, NullSsNeverLegal, and_assoc]

theorem PoppedForChecks.exec_of_null (h : PoppedForChecks s i sz) (hn : isNull (frameCs s sz) = true) :
    exec i s = .fault (.gp .zero) := by
  rw [h.exec_eq_checkedReturn, checkedReturn, hn]
  rfl

theorem fetchDescriptor_of_fault {sel : Word} {f : Fault} (hf : fetchFaults s sel = [f]) :
    fetchDescriptor s sel = .error (.fault f) := by
  simp [fetchDescriptor, hf]

/-- One exception of the fetch is raised; only a NULL SS that is never legal may have its #GP(0) raised in its place
(45_iret.md R357, log 23). -/
theorem PoppedForChecks.exec_of_fetchFault {f : Fault} (h : PoppedForChecks s i sz)
    (hn : isNull (frameCs s sz) = false) (hf : fetchFaults s (frameCs s sz) = [f]) :
    exec i s = .fault f ∨ (NullSsNeverLegal s sz ∧ exec i s = .fault (.gp .zero)) := by
  rw [h.exec_eq_checkedReturn, finish_eq_fault, finish_eq_fault, checkedReturn, hn, fetchDescriptor_of_fault hf]
  have hunfetched : unfetchedFaults s sz = [] ∨ unfetchedFaults s sz = [f] ∨
      (NullSsNeverLegal s sz ∧ unfetchedFaults s sz = [f, .gp .zero]) := by
    rw [← nullSsNeverLegal_iff]
    cases hl : s.msr.lma <;> cases hss : nullSsNeverLegal s sz <;>
      simp [unfetchedFaults, ia32eUnfetchedFaults, hl, hf, hss]
  obtain hu | hu | ⟨hss, hu⟩ := hunfetched
  · left
    rw [hu]
    rfl
  · left
    rw [hu]
    rfl
  · obtain ⟨g, hg, hraise⟩ := raiseOneOf_of_ne_nil (s := s) (l := [f, .gp .zero]) (by simp)
    rw [hu, hraise]
    obtain rfl | rfl : g = f ∨ g = .gp .zero := by simpa using hg
    · exact .inl rfl
    · exact .inr ⟨hss, rfl⟩

/-- A descriptor that can be fetched leaves the tests on it. -/
theorem PoppedForChecks.exec_of_fetched (h : PoppedForChecks s i sz) (hn : isNull (frameCs s sz) = false)
    (hd : Fetchable s (frameCs s sz) d) :
    exec i s = finish (do
      raiseOneOf s (firstFaults s sz d ++ codeSegmentFaults s (frameCs s sz) d)
      privilegeReturn s sz d) := by
  have hunfetched : unfetchedFaults s sz = [] := by
    obtain ⟨hf, ha, -⟩ := hd
    simp [unfetchedFaults, ia32eUnfetchedFaults_of_fetched hf ha]
  rw [h.exec_eq_checkedReturn, checkedReturn, hn, hunfetched, hd.fetchDescriptor_eq]
  rfl

/-! The first #GP(0) of IA-32e mode (45_iret.md R357). -/

theorem firstFaults_of_passes (h : FirstTestPasses s sz d) : firstFaults s sz d = [] := by
  cases hl : s.msr.lma
  · simp [firstFaults, hl]
  · simp [firstFaults, hl, h.ia32eFirstFaults_eq hl]

/-- The NULL SS that the model's test lets pass is the legal one (45_iret.md R357). -/
theorem legalNullSs_of_nullSsLegal {csSel ssSel : Word} (hn : isNull ssSel = true)
    (h : nullSsLegal s d csSel ssSel = true) : LegalNullSs d csSel ssSel := by
  simp only [nullSsLegal, newModeIs64, Bool.and_eq_true, bne_iff_ne, beq_iff_eq] at h
  obtain ⟨⟨⟨-, hlong⟩, hcpl⟩, hrpl⟩ := h
  exact ⟨hn, hlong, hcpl, hrpl⟩

/-- Where one of causes 2 to 5 holds, #GP(0) is what they raise. -/
theorem firstFaults_of_not_passes (h : ¬FirstTestPasses s sz d) : firstFaults s sz d = [.gp .zero] := by
  rw [FirstTestPasses, Classical.not_imp] at h
  obtain ⟨hl, h⟩ := h
  rw [firstFaults, if_pos hl, ia32eFirstFaults, if_pos]
  by_contra hnone
  simp only [Bool.or_eq_true, Bool.and_eq_true, Bool.not_eq_true', beq_iff_eq, not_or, not_and, Bool.not_eq_false,
    newModeIs64, hl, true_and] at hnone
  obtain ⟨hip, hss⟩ := hnone
  exact h ⟨hip, fun hz hn => legalNullSs_of_nullSsLegal hn (hss ⟨hz, hn⟩)⟩

/-- A good code segment and one of causes 2 to 5: #GP(0). -/
theorem PoppedForChecks.exec_of_not_firstTestPasses (h : PoppedForChecks s i sz)
    (hc : GoodCodeSegment s (frameCs s sz) d) (hfirst : ¬FirstTestPasses s sz d) : exec i s = .fault (.gp .zero) := by
  rw [h.exec_of_fetched hc.notNull hc.fetched, firstFaults_of_not_passes hfirst, hc.codeSegmentFaults_eq]
  rfl

/-! The tests on the return code segment (45_iret.md R324 to R328). -/

/-- With none of causes 2 to 5, the first failing test on the code segment is what is raised. -/
theorem PoppedForChecks.exec_of_codeSegmentFault {f : Fault} (h : PoppedForChecks s i sz)
    (hn : isNull (frameCs s sz) = false) (hd : Fetchable s (frameCs s sz) d) (hfirst : FirstTestPasses s sz d)
    (hf : codeSegmentFaults s (frameCs s sz) d = [f]) : exec i s = .fault f := by
  rw [h.exec_of_fetched hn hd, firstFaults_of_passes hfirst, hf]
  rfl

section CodeSegment

variable {sel : Word} {conforming : Bool}

theorem isCode_eq_false (h : ∀ conforming, d.kind ≠ .code conforming) : isCode d = false := by
  unfold isCode
  split
  · exact absurd ‹_› (h _)
  all_goals rfl

theorem isCode_of_kind (h : d.kind = .code conforming) : isCode d = true := by simp [isCode, h]

theorem codeSegmentFaults_of_not_code (h : ∀ conforming, d.kind ≠ .code conforming) :
    codeSegmentFaults s sel d = [.gp (.selector sel)] := by
  simp [codeSegmentFaults, isCode_eq_false h]

theorem codeSegmentFaults_of_both_sizes (hk : d.kind = .code conforming) (hl : s.msr.lma = true) (hdb : d.db = true)
    (hlong : d.long = true) : codeSegmentFaults s sel d = [.gp (.selector sel)] := by
  simp [codeSegmentFaults, isCode_of_kind hk, hl, hdb, hlong]

theorem codeSegmentFaults_of_rpl_lt (hk : d.kind = .code conforming) (h : rplOf sel < s.cpl) :
    codeSegmentFaults s sel d = [.gp (.selector sel)] := by
  simp [codeSegmentFaults, isCode_of_kind hk, h]

theorem codeSegmentFaults_of_conforming_dpl (hk : d.kind = .code true) (hdpl : rplOf sel < d.dpl) :
    codeSegmentFaults s sel d = [.gp (.selector sel)] := by
  simp [codeSegmentFaults, isCode_of_kind hk, hk, hdpl]

theorem codeSegmentFaults_of_nonconforming_dpl (hk : d.kind = .code false) (hdpl : d.dpl ≠ rplOf sel)
    (hp : d.present = true) : codeSegmentFaults s sel d = [.gp (.selector sel)] := by
  simp [codeSegmentFaults, isCode_of_kind hk, hk, hdpl, hp]

theorem codeSegmentFaults_of_not_present
    (hk : (d.kind = .code true ∧ d.dpl ≤ rplOf sel) ∨ (d.kind = .code false ∧ d.dpl = rplOf sel))
    (hlevel : s.cpl ≤ rplOf sel) (hsizes : s.msr.lma = true → ¬(d.db = true ∧ d.long = true))
    (hp : d.present = false) : codeSegmentFaults s sel d = [.np sel] := by
  have hsizes : (s.msr.lma && d.db && d.long) = false := by
    cases hl : s.msr.lma
    · rfl
    · simpa using hsizes hl
  have hlevel : ¬rplOf sel < s.cpl := BitVec.not_lt.2 hlevel
  obtain ⟨hk, hdpl⟩ | ⟨hk, hdpl⟩ := hk
  · have hdpl : ¬rplOf sel < d.dpl := BitVec.not_lt.2 hdpl
    simp [codeSegmentFaults, isCode_of_kind hk, hk, hsizes, hlevel, hdpl, hp]
  · simp [codeSegmentFaults, isCode_of_kind hk, hk, hsizes, hlevel, hdpl, hp]

end CodeSegment

/-! The return instruction pointer and the stack segment (45_iret.md R336, R346 to R349). -/

theorem goodReturnIp_iff {ip : Qword} : GoodReturnIp s d ip ↔ badReturnIp s d ip = false := by
  by_cases hnew : s.msr.lma = true ∧ d.long = true
  · simp [GoodReturnIp, badReturnIp, newModeIs64, hnew]
  · rw [GoodReturnIp, if_neg hnew, badReturnIp, newModeIs64, if_neg (by simpa using hnew), withinCsLimit]
    simp

theorem GoodReturnIp.returnIpFaults_eq {ip : Qword} (h : GoodReturnIp s d ip) : returnIpFaults s d ip = [] :=
  returnIpFaults_eq_nil.2 (goodReturnIp_iff.1 h)

theorem returnIpFaults_of_not_good {ip : Qword} (h : ¬GoodReturnIp s d ip) : returnIpFaults s d ip = [.gp .zero] := by
  rw [goodReturnIp_iff, Bool.not_eq_false] at h
  simp [returnIpFaults, h]

section StackSegment

variable {csSel ssSel : Word} {e : Descriptor}

theorem stackSegmentFaults_of_illegal_null (hn : isNull ssSel = true) (hl : nullSsLegal s d csSel ssSel = false) :
    stackSegmentFaults s d csSel ssSel = [.gp .zero] := by
  simp [stackSegmentFaults, hn, hl]

theorem stackSegmentFaults_of_beyond (hn : isNull ssSel = false) (ht : tableEntry s ssSel = none) :
    stackSegmentFaults s d csSel ssSel = [.gp (.selector ssSel)] := by
  simp [stackSegmentFaults, hn, ht]

/-- A descriptor that can be fetched leaves the RPL test and the tests on the descriptor. -/
theorem stackSegmentFaults_of_fetched (hn : isNull ssSel = false) (he : Fetchable s ssSel e) :
    stackSegmentFaults s d csSel ssSel =
      if rplOf ssSel ≠ rplOf csSel then [.gp (.selector ssSel)] else stackDescriptorFaults e csSel ssSel := by
  obtain ⟨hf, ha, rfl⟩ := he
  obtain ⟨entry, hentry, -⟩ := tableEntry_of_fetchFaults hf
  by_cases hrpl : rplOf ssSel = rplOf csSel <;> simp [stackSegmentFaults, stackRplFaults, hn, hf, ha, hentry, hrpl]

theorem stackDescriptorFaults_of_wrong (h : e.kind ≠ .data true ∨ e.dpl ≠ rplOf csSel) :
    stackDescriptorFaults e csSel ssSel = [.gp (.selector ssSel)] := by
  rw [stackDescriptorFaults, if_pos]
  simpa [isWritableData] using h

theorem stackDescriptorFaults_of_right (hk : e.kind = .data true) (hdpl : e.dpl = rplOf csSel) :
    stackDescriptorFaults e csSel ssSel = if e.present = true then [] else [.ss (.selector ssSel)] := by
  cases hp : e.present <;> simp [stackDescriptorFaults, isWritableData, hk, hdpl, hp]

theorem GoodStackSegment.stackSegmentFaults_eq (h : GoodStackSegment s csSel ssSel e) :
    stackSegmentFaults s d csSel ssSel = [] := by
  rw [stackSegmentFaults_of_fetched h.notNull h.fetched, if_neg (not_not.2 h.rpl),
    stackDescriptorFaults_of_right h.kind h.dpl, if_pos h.present]

/-- A SS that can be loaded passes every check on it. -/
theorem GoodSs.stackSegmentFaults_eq (h : GoodSs s d csSel ssSel) : stackSegmentFaults s d csSel ssSel = [] := by
  obtain ⟨e, he⟩ | ⟨hl, hnull⟩ := h
  · exact he.stackSegmentFaults_eq
  · simp [stackSegmentFaults, hnull.1, hnull.nullSsLegal_eq hl]

theorem GoodSs.stackSegmentTouchesApic_eq (h : GoodSs s d csSel ssSel) : stackSegmentTouchesApic s ssSel = false := by
  obtain ⟨e, he⟩ | ⟨-, hnull⟩ := h
  · obtain ⟨-, hapic, -⟩ := he.fetched
    simp [stackSegmentTouchesApic, hapic]
  · simp [stackSegmentTouchesApic, hnull.1]

/-- A SS that can be loaded and is NULL is the legal one. -/
theorem GoodSs.legalNullSs (h : GoodSs s d csSel ssSel) (hn : isNull ssSel = true) : LegalNullSs d csSel ssSel := by
  obtain ⟨e, he⟩ | ⟨-, hnull⟩ := h
  · simp [he.notNull] at hn
  · exact hnull

end StackSegment

/-- A good instruction pointer and, for IRETQ, a SS that is not NULL or the legal one: none of causes 2 to 5. -/
theorem GoodReturnIp.firstTestPasses (h : GoodReturnIp s d (frameIp s sz))
    (hss : sz = .w64 → isNull (frameSs s sz) = true → LegalNullSs d (frameCs s sz) (frameSs s sz)) :
    FirstTestPasses s sz d :=
  fun hl => ⟨fun hlong => by simpa [GoodReturnIp, hl, hlong] using h, hss⟩

/-! The branch on the privilege level returned to (45_iret.md R329). -/

theorem privilegeReturn_of_outer (h : s.cpl < rplOf (frameCs s sz)) :
    privilegeReturn s sz d = outerLevelReturn s sz d := if_pos h

theorem privilegeReturn_of_same (h : rplOf (frameCs s sz) = s.cpl) :
    privilegeReturn s sz d = sameLevelReturn s sz d :=
  if_neg (h ▸ BitVec.lt_irrefl _)

/-- The two further items of an outer-level frame, where they are on the stack and can be read (45_iret.md R345). -/
theorem popOuterItems_of_readable (h : sz ≠ .w64 → FrameOnStack s sz 3 2 ∧ FrameReadable s sz 3 2) :
    popOuterItems s sz = .ok () := by
  cases sz with
  | w64 => rfl
  | w16 =>
    obtain ⟨hs, hr⟩ := h (by decide)
    exact popGroup_of_readable hs hr
  | w32 =>
    obtain ⟨hs, hr⟩ := h (by decide)
    exact popGroup_of_readable hs hr

theorem outerLevelReturn_of_stackFault {f : Fault} (hpop : popOuterItems s sz = .ok ())
    (hf : stackSegmentFaults s d (frameCs s sz) (frameSs s sz) = [f]) :
    outerLevelReturn s sz d = .error (.fault f) := by
  rw [outerLevelReturn, hpop, hf]
  rfl

/-- Past a SS that can be loaded, the instruction pointer is tested (45_iret.md R350). -/
theorem outerLevelReturn_of_goodSs (hpop : popOuterItems s sz = .ok ())
    (hss : GoodSs s d (frameCs s sz) (frameSs s sz)) :
    outerLevelReturn s sz d = (do
      raiseOneOf s (returnIpFaults s d (frameIp s sz))
      refuseIf (loadsVmInIa32e s sz) .vmInIa32e
      return outerLevelNext s sz d) := by
  rw [outerLevelReturn, hpop, hss.stackSegmentFaults_eq, hss.stackSegmentTouchesApic_eq]
  rfl

/-- A same-level IRETQ whose instruction pointer is good raises what its SS does (log 28). -/
theorem sameLevelReturn_of_stackFault {f : Fault} (hip : GoodReturnIp s d (frameIp s .w64))
    (hf : stackSegmentFaults s d (frameCs s .w64) (frameSs s .w64) = [f]) :
    sameLevelReturn s .w64 d = .error (.fault f) := by
  rw [sameLevelReturn, hf, hip.returnIpFaults_eq]
  rfl

/-- Past a SS that can be loaded, a same-level IRETQ tests the instruction pointer. -/
theorem sameLevelReturn_of_goodSs (hss : GoodSs s d (frameCs s .w64) (frameSs s .w64)) :
    sameLevelReturn s .w64 d = (do
      raiseOneOf s (returnIpFaults s d (frameIp s .w64))
      return sameLevelNext64 s d) := by
  rw [sameLevelReturn, hss.stackSegmentFaults_eq, hss.stackSegmentTouchesApic_eq]
  rfl

/-- A same-level return of operand size 16 or 32 (45_iret.md R336, decision D10). -/
theorem sameLevelReturn_of_ne_w64 (hz : sz ≠ .w64) :
    sameLevelReturn s sz d = (do
      refuseIf (inBits64 s) .sameLevelIn64Bit
      raiseOneOf s (returnIpFaults s d (frameIp s sz))
      return sameLevelNext s sz d) := by
  cases sz with
  | w16 => rfl
  | w32 => rfl
  | w64 => exact absurd rfl hz

/-- The return tests its stack segment next, and nothing that is not ranked against these tests fails: a return to an
outer level whose two further items are popped, or an IRETQ to the same level with a good instruction pointer. -/
def ReachesStackChecks (s : State) (sz : OpSize) (d : Descriptor) : Prop :=
  (s.cpl < rplOf (frameCs s sz) ∧ (sz ≠ .w64 → FrameOnStack s sz 3 2 ∧ FrameReadable s sz 3 2)) ∨
    (rplOf (frameCs s sz) = s.cpl ∧ sz = .w64 ∧ GoodReturnIp s d (frameIp s sz))

/-- The first failing test on the stack segment is what is raised. -/
theorem PoppedForChecks.exec_of_stackSegmentFault {f : Fault} (h : PoppedForChecks s i sz)
    (hc : GoodCodeSegment s (frameCs s sz) d) (hreach : ReachesStackChecks s sz d) (hfirst : FirstTestPasses s sz d)
    (hf : stackSegmentFaults s d (frameCs s sz) (frameSs s sz) = [f]) : exec i s = .fault f := by
  rw [h.exec_eq_privilegeReturn hc hfirst, finish_eq_fault]
  obtain ⟨hlevel, hpop⟩ | ⟨hlevel, rfl, hip⟩ := hreach
  · rw [privilegeReturn_of_outer hlevel, outerLevelReturn_of_stackFault (popOuterItems_of_readable hpop) hf]
  · rw [privilegeReturn_of_same hlevel, sameLevelReturn_of_stackFault hip hf]

/-! A bad return instruction pointer (45_iret.md R336, R350, R357). -/

/-- To the same level. -/
theorem PoppedForChecks.exec_of_bad_ip_same (h : PoppedForChecks s i sz) (hc : GoodCodeSegment s (frameCs s sz) d)
    (hip : ¬GoodReturnIp s d (frameIp s sz)) (hlevel : rplOf (frameCs s sz) = s.cpl)
    (hcase : modeOf s ≠ .bits64 ∨ (s.msr.lma = true ∧ d.long = true) ∨
      (sz = .w64 ∧ GoodSs s d (frameCs s sz) (frameSs s sz))) : exec i s = .fault (.gp .zero) := by
  by_cases hfirst : FirstTestPasses s sz d
  case neg => exact h.exec_of_not_firstTestPasses hc hfirst
  rw [h.exec_eq_privilegeReturn hc hfirst, privilegeReturn_of_same hlevel, finish_eq_fault]
  obtain hm | ⟨hl, hlong⟩ | ⟨rfl, hss⟩ := hcase
  · have hz : sz ≠ .w64 := by
      rintro rfl
      exact hm h.mode_of_w64
    have hb : inBits64 s = false := by simpa [inBits64] using hm
    rw [sameLevelReturn_of_ne_w64 hz, hb, returnIpFaults_of_not_good hip]
    rfl
  · obtain ⟨hcanonical, -⟩ := hfirst hl
    exact absurd (by simpa [GoodReturnIp, hl, hlong] using hcanonical hlong) hip
  · rw [sameLevelReturn_of_goodSs hss, returnIpFaults_of_not_good hip]
    rfl

/-- To an outer level. -/
theorem PoppedForChecks.exec_of_bad_ip_outer (h : PoppedForChecks s i sz) (hc : GoodCodeSegment s (frameCs s sz) d)
    (hip : ¬GoodReturnIp s d (frameIp s sz)) (hlevel : s.cpl < rplOf (frameCs s sz))
    (hpop : sz ≠ .w64 → FrameOnStack s sz 3 2 ∧ FrameReadable s sz 3 2)
    (hss : GoodSs s d (frameCs s sz) (frameSs s sz)) : exec i s = .fault (.gp .zero) := by
  by_cases hfirst : FirstTestPasses s sz d
  case neg => exact h.exec_of_not_firstTestPasses hc hfirst
  rw [h.exec_eq_privilegeReturn hc hfirst, privilegeReturn_of_outer hlevel, finish_eq_fault,
    outerLevelReturn_of_goodSs (popOuterItems_of_readable hpop) hss, returnIpFaults_of_not_good hip]
  rfl

/-- To virtual-8086 mode, the 16-bit instruction pointer against the limit there (45_iret.md R333). -/
theorem toVirtual8086Return_of_bad_ip (hs : FrameOnStack s sz 3 6) (hr : FrameReadable s sz 3 6)
    (hlimit : s.plat.v86SegLimit.toNat < (frameIp s sz &&& 0xFFFF).toNat) :
    toVirtual8086Return s sz = .error (.fault (.gp .zero)) := by
  have hip : withinCsLimit s.plat.v86SegLimit (frameIp s sz &&& 0xFFFF) = false :=
    decide_eq_false (Nat.not_le.2 hlimit)
  have htests : toV86SegmentTests s sz = [.gp .zero] := by
    have hs : stackTest s sz 3 6 .zero = [] := hs
    rw [toV86SegmentTests, if_neg (not_not.2 hs), hip]
    rfl
  obtain ⟨hf, -⟩ := hr
  simp [toVirtual8086Return, htests, popGroup_of_one_test _ hf]

end Checks

/-! ### The obligations on the checks of an interrupt return -/

/-- Settles O35: the test for NULL comes first of the checks. -/
theorem nullCodeSelectorFaults : Obligations.NullCodeSelectorFaults := fun _ _ _ h hn => h.exec_of_null hn

/-- Settles O36: beyond the table the fetch has one exception. -/
theorem codeSelectorBeyondTableFaults : Obligations.CodeSelectorBeyondTableFaults := by
  intro s i sz h hn ht
  exact h.exec_of_fetchFault hn (by simp [fetchFaults, ht])

/-- Settles O37: each test on the code segment is the first that fails, or one before it raises the same exception. -/
theorem codeSegmentChecksInOrder : Obligations.CodeSegmentChecksInOrder := by
  intro s i sz h hn
  refine ⟨fun e he hl hcanonical halign hpage => ?_, fun d hd hfirst => ?_⟩
  · exact h.exec_of_fetchFault hn (by simp [fetchFaults, he, hl, hcanonical, halign, hpage])
  · have hraise {f : Fault} := h.exec_of_codeSegmentFault (f := f) hn hd hfirst
    refine ⟨fun hk => hraise (codeSegmentFaults_of_not_code hk), fun conforming hk => ⟨fun hl hdb hlong => ?_,
      fun hrpl => ?_, fun hlevel => ⟨?_, ?_, fun hdpl hsizes hp => ?_⟩⟩⟩
    · exact hraise (codeSegmentFaults_of_both_sizes hk hl hdb hlong)
    · exact hraise (codeSegmentFaults_of_rpl_lt hk hrpl)
    · rintro rfl hdpl
      exact hraise (codeSegmentFaults_of_conforming_dpl hk hdpl)
    · rintro rfl hdpl hp
      exact hraise (codeSegmentFaults_of_nonconforming_dpl hk hdpl hp)
    · have hkind : (d.kind = .code true ∧ d.dpl ≤ rplOf (frameCs s sz)) ∨
          (d.kind = .code false ∧ d.dpl = rplOf (frameCs s sz)) := by
        obtain ⟨rfl, hdpl⟩ | ⟨rfl, hdpl⟩ := hdpl
        · exact .inl ⟨hk, hdpl⟩
        · exact .inr ⟨hk, hdpl⟩
      exact hraise (codeSegmentFaults_of_not_present hkind hlevel hsizes hp)

/-- Settles O38: each test on the stack segment is the first that fails; an IRETQ in IA-32e mode may raise the #GP(0) of
a NULL selector before it looks at the stack segment. -/
theorem stackSegmentChecksInOrder : Obligations.StackSegmentChecksInOrder := by
  intro s i sz d h hc hreach hcanonical
  have hraise {f : Fault} := h.exec_of_stackSegmentFault (f := f) hc hreach
  have hfirst (hn : isNull (frameSs s sz) = false) : FirstTestPasses s sz d :=
    fun hl => ⟨hcanonical hl, fun _ hnull => by simp [hn] at hnull⟩
  refine ⟨fun hn hillegal => ?_, fun hn ht => ?_, fun e hn he => ⟨fun hwrong => ?_, fun hrpl hk hdpl hp => ?_⟩⟩
  · have hlegal : nullSsLegal s d (frameCs s sz) (frameSs s sz) = false := by
      by_contra hlegal
      rw [Bool.not_eq_false] at hlegal
      obtain ⟨-, hlong, hcpl, hrpl⟩ := legalNullSs_of_nullSsLegal hn hlegal
      obtain hm | hlong' | hcpl' | hrpl' := hillegal
      · obtain ⟨-, hl, -⟩ := modeOf_eq_protectedMode_iff.1 hm
        simp [nullSsLegal, newModeIs64, hl] at hlegal
      · simp [hlong] at hlong'
      · exact hcpl hcpl'
      · exact hrpl' hrpl
    by_cases hpass : FirstTestPasses s sz d
    · exact hraise hpass (stackSegmentFaults_of_illegal_null hn hlegal)
    · exact h.exec_of_not_firstTestPasses hc hpass
  · exact hraise (hfirst hn) (stackSegmentFaults_of_beyond hn ht)
  · refine hraise (hfirst hn) ?_
    rw [stackSegmentFaults_of_fetched hn he]
    split_ifs with hrpl
    · rfl
    · exact stackDescriptorFaults_of_wrong (hwrong.resolve_left hrpl)
  · refine hraise (hfirst hn) ?_
    rw [stackSegmentFaults_of_fetched hn he, if_neg (not_not.2 hrpl), stackDescriptorFaults_of_right hk hdpl, hp]
    rfl

/-- Settles O39: the test of the instruction pointer on each path. -/
theorem badReturnPointerFaults : Obligations.BadReturnPointerFaults := by
  intro s i sz
  refine ⟨fun d h hc hip => ⟨h.exec_of_bad_ip_same hc hip, h.exec_of_bad_ip_outer hc hip⟩, fun h hs hr hlimit => ?_,
    fun h hs hr hlimit => ?_⟩
  · rw [exec_of_returnSize h.size (absurd · h.small), interruptReturn_of_virtual8086 h.vmx h.mode, finish_eq_fault]
    exact virtual8086Return_of_bad_ip h.vme h.iopl hs hr hlimit
  · rw [h.exec_eq, finish_eq_fault]
    exact toVirtual8086Return_of_bad_ip hs hr hlimit

end Sys2Proof.Machine

/-! ### Interrupt return: completion in protected and IA-32e mode -/

namespace Sys2Proof.Machine

section Completion

variable {s : State} {i : Instr} {sz : OpSize} {d : Descriptor}

theorem PoppedForChecks.ne_w64_of_mode (h : PoppedForChecks s i sz) (hm : modeOf s ≠ .bits64) : sz ≠ .w64 := by
  rintro rfl
  exact hm h.mode_of_w64

/-- A same-level return of operand size 16 or 32 with a good instruction pointer reaches its one refusal (45_iret.md
R343, decision D10). -/
theorem PoppedForChecks.exec_same_of_good (h : PoppedForChecks s i sz) (hz : sz ≠ .w64)
    (hc : GoodCodeSegment s (frameCs s sz) d) (hlevel : rplOf (frameCs s sz) = s.cpl)
    (hip : GoodReturnIp s d (frameIp s sz)) :
    exec i s = finish (do
      refuseIf (inBits64 s) .sameLevelIn64Bit
      return sameLevelNext s sz d) := by
  rw [h.exec_eq_privilegeReturn hc (hip.firstTestPasses (absurd · hz)), privilegeReturn_of_same hlevel,
    sameLevelReturn_of_ne_w64 hz, hip.returnIpFaults_eq]
  rfl

/-- An outer-level return with good segments and a good instruction pointer completes (45_iret.md R345 to R354). -/
theorem outerLevelReturn_of_good (hpop : popOuterItems s sz = .ok ())
    (hss : GoodSs s d (frameCs s sz) (frameSs s sz)) (hip : GoodReturnIp s d (frameIp s sz))
    (hvm : sz = .w32 → s.cpl = 0 → flagOf (frameFlags s sz) .vm = false) :
    outerLevelReturn s sz d = .ok (outerLevelNext s sz d) := by
  have hloads : loadsVmInIa32e s sz = false := by
    by_contra hloads
    simp only [loadsVmInIa32e, Bool.not_eq_false, Bool.and_eq_true, beq_iff_eq] at hloads
    obtain ⟨⟨⟨-, hz⟩, hcpl⟩, hvm'⟩ := hloads
    simp [hvm hz hcpl] at hvm'
  rw [outerLevelReturn_of_goodSs hpop hss, hip.returnIpFaults_eq, hloads]
  rfl

/-- Six more items on the stack with a 16-bit instruction pointer inside the limit complete a return to virtual-8086 mode
(45_iret.md R333). -/
theorem toVirtual8086Return_of_good (hs : FrameOnStack s sz 3 6) (hr : FrameReadable s sz 3 6)
    (hlimit : (frameIp s sz &&& 0xFFFF).toNat ≤ s.plat.v86SegLimit.toNat) :
    toVirtual8086Return s sz = .ok (toV86Next s sz) := by
  have hip : withinCsLimit s.plat.v86SegLimit (frameIp s sz &&& 0xFFFF) = true := decide_eq_true hlimit
  have htests : toV86SegmentTests s sz = [] := by
    have hs : stackTest s sz 3 6 .zero = [] := hs
    rw [toV86SegmentTests, if_neg (not_not.2 hs), hip]
    rfl
  have hpop : popGroup s sz 3 6 (toV86SegmentTests s sz) = .ok () := popGroup_eq_ok.2 ⟨htests, hr⟩
  rw [toVirtual8086Return, hpop]
  rfl

/-- The state a same-level IRETQ leaves, written out (45_iret.md R343, decision D10). -/
theorem sameLevelNext64_eq (s : State) (d : Descriptor) :
    sameLevelNext64 s d =
      { s with
        rip := frameIp s .w64
        cs := { sel := frameCs s .w64, hidden := d }
        eflags := flagsLoaded s (sameLevelMask .w64 s.cpl (ioplOf s.eflags)) (frameFlags s .w64)
        gpr := { s.gpr with rsp := frameSp s .w64 }
        ss := loadedSs s (frameSs s .w64)
        freeCount := s.freeCount + 1 } := by
  simp only [sameLevelNext64, loadCsIp, State.setRip, State.setCs, State.setEflags, State.setRsp, State.setSs,
    State.nextFree, loadedRsp]

end Completion

/-- Settles O40: outside 64-bit mode the return is not refused, and the state written out is `sameLevelNext`. -/
theorem sameLevelReturnCompletes : Obligations.SameLevelReturnCompletes := by
  intro s i sz d h hm hc hlevel hip
  have hb : inBits64 s = false := by simpa [inBits64] using hm
  rw [h.exec_same_of_good (h.ne_w64_of_mode hm) hc hlevel hip, hb]
  rfl

/-- Settles O41: in 64-bit mode every check passes and the return is refused. -/
theorem sameLevelIn64BitModeIsRefused : Obligations.SameLevelIn64BitModeIsRefused := by
  intro s i sz d h hm hz hc hlevel hip
  have hb : inBits64 s = true := by simp [inBits64, hm]
  rw [h.exec_same_of_good hz hc hlevel hip, hb]
  rfl

/-- Settles O42: IRETQ is executed in IA-32e mode, where the legal NULL selector can be loaded; the state written out is
`sameLevelNext64`. -/
theorem iretqSameLevelCompletes : Obligations.IretqSameLevelCompletes := by
  intro s rxb d h hc hlevel hip hstack
  have hss : GoodSs s d (frameCs s .w64) (frameSs s .w64) :=
    hstack.imp_right fun hnull => ⟨lma_of_ia32e (.inr h.mode_of_w64), hnull⟩
  rw [h.exec_eq_privilegeReturn hc (hip.firstTestPasses fun _ => hss.legalNullSs), privilegeReturn_of_same hlevel,
    sameLevelReturn_of_goodSs hss, hip.returnIpFaults_eq, raiseOneOf_nil, Result.ok_bind, sameLevelNext64_eq]
  rfl

/-- Settles O43: every check passes, and the state written out is `outerLevelNext`. -/
theorem outerLevelReturnCompletes : Obligations.OuterLevelReturnCompletes := by
  intro s i sz d h hc hlevel hpop hss hip hvm
  rw [h.exec_eq_privilegeReturn hc (hip.firstTestPasses fun _ => GoodSs.legalNullSs hss),
    privilegeReturn_of_outer hlevel, outerLevelReturn_of_good (popOuterItems_of_readable hpop) hss hip hvm]
  rfl

/-- Settles O44: both groups are popped, and the state written out is `toV86Next`. -/
theorem returnToVirtual8086Completes : Obligations.ReturnToVirtual8086Completes := by
  intro s hm hx hnt hcpl hs hr hvm hs' hr' hlimit
  have h : ReturnsToV86 s := ⟨hx, hm, hnt, hcpl, hs, hr, hvm⟩
  rw [h.exec_eq, toVirtual8086Return_of_good hs' hr' hlimit]
  rfl

end Sys2Proof.Machine

/-! ### Interrupt return: what the state it leaves holds -/

namespace Sys2Proof.Machine

section After

variable {s t : State} {i : Instr} {sz : OpSize} {d : Descriptor}

/-- An interrupt return that answers a next state took one of the paths. -/
theorem returned_of_exec (hi : returnSize i = some sz) (h : exec i s = .next t) : Returned s sz t := by
  obtain ⟨rfl, -⟩ | ⟨rfl, hr⟩ | ⟨rfl, hr⟩ | ⟨⟨rxb, rfl⟩, -, hr⟩ := exec_next_cases h
  · cases hi
  all_goals
    cases hi
    exact hr

/-- A step is CPUID or an interrupt return on one of its paths. -/
theorem step_cases (h : step s = .next t) :
    t = cpuidNext s (s.rip + 2) ∨ ∃ i sz, fetchInstr s = .ok i ∧ returnSize i = some sz ∧ Returned s sz t := by
  obtain ⟨i, hfetch, hexec⟩ := step_next_cases h
  obtain ⟨-, ht, -⟩ | ⟨rfl, hr⟩ | ⟨rfl, hr⟩ | ⟨⟨rxb, rfl⟩, -, hr⟩ := exec_next_cases hexec
  · exact .inl ht
  all_goals exact .inr ⟨_, _, hfetch, rfl, hr⟩

/-- After its pops a return in protected or IA-32e mode goes to the same level or to an outer one. -/
theorem PoppedForChecks.next_cases (h : PoppedForChecks s i sz) (ht : exec i s = .next t) :
    (rplOf (frameCs s sz) = s.cpl ∧
      t.eflags = flagsLoaded s (sameLevelMask sz s.cpl (ioplOf s.eflags)) (frameFlags s sz)) ∨
    (s.cpl < rplOf (frameCs s sz) ∧ ∃ d, t = outerLevelNext s sz d) := by
  obtain ⟨hreal, hv86⟩ : modeOf s ≠ .realAddress ∧ modeOf s ≠ .virtual8086 := by
    obtain ⟨hm | hm, -⟩ | hm := h.mode <;> simp [hm]
  cases returned_of_exec h.size ht with
  | real mode => exact absurd mode hreal
  | v86 mode => exact absurd mode hv86
  | toV86 mode _ _ vm cpl => simp [h.notToV86 mode cpl] at vm
  | same d _ level => exact .inl ⟨level, sameLevelNext_eflags s sz d⟩
  | same64 d _ level size =>
    subst size
    exact .inl ⟨level, sameLevelNext64_eflags s d⟩
  | outer d _ level => exact .inr ⟨level, d, rfl⟩

theorem PoppedForChecks.eflags_of_same (h : PoppedForChecks s i sz) (ht : exec i s = .next t)
    (hlevel : rplOf (frameCs s sz) = s.cpl) :
    t.eflags = flagsLoaded s (sameLevelMask sz s.cpl (ioplOf s.eflags)) (frameFlags s sz) := by
  obtain ⟨-, hflags⟩ | ⟨hlt, -⟩ := h.next_cases ht
  · exact hflags
  · exact absurd hlt (hlevel ▸ BitVec.lt_irrefl _)

theorem PoppedForChecks.eq_of_outer (h : PoppedForChecks s i sz) (ht : exec i s = .next t)
    (hlevel : s.cpl < rplOf (frameCs s sz)) : ∃ d, t = outerLevelNext s sz d := by
  obtain ⟨heq, -⟩ | ⟨-, hnext⟩ := h.next_cases ht
  · exact absurd hlevel (heq ▸ BitVec.lt_irrefl _)
  · exact hnext

/-! Data segment registers on a return to an outer level (45_iret.md R354). -/

theorem invalidated_sel_of_inner {n site : Nat} {newCpl : BitVec 2} {r : SegReg} (hn : isNull r.sel = false)
    (hk : isDataOrNonconforming r.hidden = true) (hdpl : r.hidden.dpl < newCpl) :
    (invalidated n site newCpl r).sel = 0 := by
  simp [invalidated, hn, hk, hdpl]

theorem invalidated_of_kept {n site : Nat} {newCpl : BitVec 2} {r : SegReg}
    (h : isNull r.sel = true ∨ isDataOrNonconforming r.hidden = false ∨ newCpl ≤ r.hidden.dpl) :
    invalidated n site newCpl r = r := by
  rw [invalidated, if_neg]
  simp only [Bool.and_eq_true, Bool.not_eq_true', decide_eq_true_eq]
  rintro ⟨⟨hn, hk⟩, hdpl⟩
  obtain hn' | hk' | hdpl' := h
  · simp [hn] at hn'
  · simp [hk] at hk'
  · exact absurd hdpl (BitVec.not_lt.2 hdpl')

theorem outerLevelNext_es :
    (outerLevelNext s sz d).es = invalidated s.freeCount 1 (rplOf (frameCs s sz)) s.es := by simp [outerLevelNext]
theorem outerLevelNext_fs :
    (outerLevelNext s sz d).fs = invalidated s.freeCount 2 (rplOf (frameCs s sz)) s.fs := by simp [outerLevelNext]
theorem outerLevelNext_gs :
    (outerLevelNext s sz d).gs = invalidated s.freeCount 3 (rplOf (frameCs s sz)) s.gs := by simp [outerLevelNext]
theorem outerLevelNext_ds :
    (outerLevelNext s sz d).ds = invalidated s.freeCount 4 (rplOf (frameCs s sz)) s.ds := by simp [outerLevelNext]

/-! What holds of every path. -/

/-- Of the general registers only the stack pointer changes (45_iret.md R300, implicit outputs). -/
theorem Returned.gpr_eq (h : Returned s sz t) : t.gpr = { s.gpr with rsp := t.gpr.rsp } := by cases h <;> rfl

/-- A return to virtual-8086 mode has set VM (45_iret.md R333). -/
theorem flagOf_toV86Next_vm (hvm : flagOf (frameFlags s sz) .vm = true) :
    flagOf (toV86Next s sz).eflags .vm = true := by
  simpa [show maskNamed.getLsbD Flag.vm.bit = true by decide] using hvm

/-- The data segment registers stay but on a return to an outer level, which changes CPL, and to virtual-8086 mode, which
changes VM. -/
theorem Returned.dataSegs_eq (h : Returned s sz t) (hcpl : s.cpl = t.cpl)
    (hvm : flagOf t.eflags .vm = flagOf s.eflags .vm) :
    t.ds = s.ds ∧ t.es = s.es ∧ t.fs = s.fs ∧ t.gs = s.gs := by
  cases h with
  | real => exact ⟨rfl, rfl, rfl, rfl⟩
  | v86 => exact ⟨rfl, rfl, rfl, rfl⟩
  | toV86 mode _ _ vm =>
    obtain ⟨-, -, hvm'⟩ := modeOf_eq_protectedMode_iff.1 mode
    rw [flagOf_toV86Next_vm vm, hvm'] at hvm
    cases hvm
  | same => exact ⟨rfl, rfl, rfl, rfl⟩
  | same64 => simp [sameLevelNext64_eq]
  | outer d _ level =>
    rw [outerLevelNext_cpl] at hcpl
    exact absurd level (hcpl ▸ BitVec.lt_irrefl _)

/-- How a return changes CPL (45_iret.md R333, R353): not at all, to the RPL of the CS it loads, which is less
privileged, or to 3 on entering virtual-8086 mode. -/
theorem Returned.cpl_cases (h : Returned s sz t) :
    t.cpl = s.cpl ∨ (s.cpl < t.cpl ∧ t.cpl = rplOf t.cs.sel) ∨ (modeOf t = .virtual8086 ∧ t.cpl = 3) := by
  have hcr := h.cr_eq
  have hmsr := h.msr_eq
  cases h with
  | real => exact .inl rfl
  | v86 => exact .inl rfl
  | toV86 mode _ _ vm =>
    obtain ⟨hpe, hl, -⟩ := modeOf_eq_protectedMode_iff.1 mode
    exact .inr (.inr ⟨modeOf_eq_virtual8086_iff.2 ⟨hcr ▸ hpe, hmsr ▸ hl, flagOf_toV86Next_vm vm⟩, rfl⟩)
  | same => exact .inl rfl
  | same64 d => exact .inl (sameLevelNext64_cpl s d)
  | outer d _ level => exact .inr (.inl ⟨level, rfl⟩)

/-- The checks on a code segment are made outside virtual-8086 mode only. -/
theorem ReachesPrivilegeReturn.mode_ne_virtual8086 (h : ReachesPrivilegeReturn s sz d) :
    modeOf s ≠ .virtual8086 := by
  obtain ⟨hm, -⟩ | ⟨hm | hm, -⟩ := h.mode <;> simp [hm]

/-- A load of the flags under a same-level or outer-level mask changes IF with CPL at most IOPL only (45_iret.md R340,
R351). -/
theorem cpl_le_iopl_of_intf_changed {mask image : Dword}
    (hmask : mask.getLsbD Flag.intf.bit = decide (s.cpl ≤ ioplOf s.eflags))
    (hne : flagOf (flagsLoaded s mask image) .intf ≠ flagOf s.eflags .intf) : s.cpl ≤ ioplOf s.eflags :=
  of_decide_eq_true (hmask ▸ mask_of_flag_changed hne)

/-- Who may change IF (45_iret.md R316, R340, R351, R365). -/
theorem Returned.intf_changed (h : Returned s sz t) (hne : flagOf t.eflags .intf ≠ flagOf s.eflags .intf) :
    modeOf s = .realAddress ∨ (modeOf s = .virtual8086 ∧ ioplOf s.eflags = 3) ∨
      (modeOf s ≠ .virtual8086 ∧ s.cpl ≤ ioplOf s.eflags) := by
  cases h with
  | real mode => exact .inl mode
  | v86 mode _ iopl => exact .inr (.inl ⟨mode, iopl⟩)
  | toV86 mode _ _ _ cpl => exact .inr (.inr ⟨by simp [mode], by simp [cpl, BitVec.le_def]⟩)
  | same d checks =>
    rw [sameLevelNext_eflags] at hne
    exact .inr (.inr ⟨checks.mode_ne_virtual8086, cpl_le_iopl_of_intf_changed (sameLevelMask_flag ..) hne⟩)
  | same64 d checks =>
    rw [sameLevelNext64_eflags] at hne
    exact .inr (.inr ⟨checks.mode_ne_virtual8086, cpl_le_iopl_of_intf_changed (sameLevelMask_flag ..) hne⟩)
  | outer d checks =>
    rw [outerLevelNext_eflags] at hne
    exact .inr (.inr ⟨checks.mode_ne_virtual8086, cpl_le_iopl_of_intf_changed (outerLevelMask_flag ..) hne⟩)

end After

/-! ### The obligations on the state an interrupt return leaves -/

/-- Settles O45: the mask of a same-level return, bit by bit. -/
theorem sameLevelReturnFlags : Obligations.SameLevelReturnFlags := by
  intro s t i sz h hlevel ht
  rw [h.eflags_of_same ht hlevel]
  refine ⟨ioplOf_flagsLoaded s _ fun _ => sameLevelMask_iopl _ _ _, fun f hid => ?_⟩
  rw [flagOf_flagsLoaded, sameLevelMask_flag]
  simp only [and_iff_left hid]

/-- Settles O46: the mask of an outer-level return, bit by bit. -/
theorem outerLevelReturnFlags : Obligations.OuterLevelReturnFlags := by
  intro s t i sz h hlevel ht
  obtain ⟨d, rfl⟩ := h.eq_of_outer ht hlevel
  rw [outerLevelNext_eflags]
  refine ⟨ioplOf_flagsLoaded s _ fun _ => outerLevelMask_iopl _ _ _, fun f hid => ?_⟩
  rw [flagOf_flagsLoaded, outerLevelMask_flag]
  simp only [and_iff_left hid]

/-- Settles O47: each of the four registers is `invalidated` by the new CPL. -/
theorem dataSegmentsInvalidatedOnOuterReturn : Obligations.DataSegmentsInvalidatedOnOuterReturn := by
  intro s t i sz h hlevel ht
  obtain ⟨d, rfl⟩ := h.eq_of_outer ht hlevel
  refine ⟨outerLevelNext_cpl s sz d, fun old new hmem => ?_⟩
  rw [outerLevelNext_cpl]
  obtain ⟨site, rfl⟩ : ∃ site, new = invalidated s.freeCount site (rplOf (frameCs s sz)) old := by
    simp only [outerLevelNext_es, outerLevelNext_fs, outerLevelNext_gs, outerLevelNext_ds, List.mem_cons,
      Prod.mk.injEq, List.not_mem_nil, or_false] at hmem
    obtain ⟨rfl, rfl⟩ | ⟨rfl, rfl⟩ | ⟨rfl, rfl⟩ | ⟨rfl, rfl⟩ := hmem
    all_goals exact ⟨_, rfl⟩
  exact ⟨invalidated_sel_of_inner, invalidated_of_kept⟩

/-- Settles O48: what each path leaves, part by part. -/
theorem interruptReturnFrame : Obligations.InterruptReturnFrame := by
  intro s t i sz hi ht
  have h := returned_of_exec hi ht
  obtain ⟨hmem, hcr, hmsr, htables, hplat, hcfg⟩ := h.frame
  exact ⟨fun a => by rw [hmem], h.gpr_eq, hcr, hmsr, htables, hplat, hcfg, h.dataSegs_eq⟩

/-- Settles O50: an item is a number of its bytes, and VM is bit 17. -/
theorem poppedItemsAreZeroExtended : Obligations.PoppedItemsAreZeroExtended :=
  fun s sz k => ⟨frameItem_toNat_lt s sz k, flagOf_frameFlags_w16 (by decide)⟩

/-- Settles O54: CPUID keeps CPL, and a return has one of three ways to set it. -/
theorem privilegeIsNeverGained : Obligations.PrivilegeIsNeverGained := by
  intro s t hstep
  obtain rfl | ⟨i, sz, hfetch, hi, h⟩ := step_cases hstep
  · rw [cpuidNext_cpl]
    exact ⟨BitVec.le_refl _, fun hne => absurd rfl hne⟩
  · have hreturn : ∃ i sz, fetchInstr s = .ok i ∧ returnSize i = some sz := ⟨i, sz, hfetch, hi⟩
    obtain hsame | ⟨hlt, hrpl⟩ | ⟨hm, hthree⟩ := h.cpl_cases
    · exact ⟨hsame ▸ BitVec.le_refl _, fun hne => absurd hsame hne⟩
    · exact ⟨BitVec.le_of_lt hlt, fun _ => ⟨hreturn, .inl hrpl⟩⟩
    · have hle : s.cpl ≤ t.cpl := by
        rw [hthree]
        bv_omega
      exact ⟨hle, fun _ => ⟨hreturn, .inr ⟨hm, hthree⟩⟩⟩

/-- Settles O57: CPUID keeps EFLAGS, and a return that loads IF has the privilege for it. -/
theorem interruptFlagNeedsPrivilege : Obligations.InterruptFlagNeedsPrivilege := by
  intro s t hstep hne
  obtain rfl | ⟨i, sz, hfetch, hi, h⟩ := step_cases hstep
  · exact absurd (by rw [cpuidNext_eflags]) hne
  · refine ⟨⟨i, sz, hfetch, hi⟩, ?_⟩
    obtain hreal | ⟨hv86, hiopl⟩ | ⟨hnot, hcpl⟩ := h.intf_changed hne
    · exact ⟨fun hm => by simp [hreal] at hm, fun hm => absurd hreal hm⟩
    · exact ⟨fun _ => hiopl, fun _ hm => absurd hv86 hm⟩
    · exact ⟨fun hm => absurd hm hnot, fun _ _ => hcpl⟩

end Sys2Proof.Machine

/-! ### Exceptions of a return in real-address mode -/

namespace Sys2Proof.Machine

section RealAddressExceptions

variable {s : State} {sz : OpSize} {f : Fault}

/-- No read page-faults in real-address mode (60_exceptions.md R381). -/
theorem pageFaults_of_realAddress (hm : modeOf s = .realAddress) (a : Qword) (n : Nat) : pageFaults s a n = false := by
  simp [pageFaults, translate, hm]

/-- Outside 64-bit mode a group that is not within the limit fails the stack test (20_memory.md R67). -/
theorem stackTest_of_not_withinStackLimits {first count : Nat} (code : ErrorCode) (hb : inBits64 s = false)
    (h : withinStackLimits s (first * sz.bytes) (count * sz.bytes) = false) :
    stackTest s sz first count code = [.ss code] := by
  simp [stackTest, hb, h]

/-- A frame outside the stack limits fails the first segment test (45_iret.md R311). -/
theorem realSegmentTests_of_not_withinStackLimits (hm : modeOf s = .realAddress)
    (hstack : withinStackLimits s 0 (3 * sz.bytes) = false) : realSegmentTests s sz = [.ss .none] := by
  have htest : stackTest s sz 0 3 .none = [.ss .none] :=
    stackTest_of_not_withinStackLimits _ (by simp [inBits64, hm]) (by simpa using hstack)
  simp [realSegmentTests, htest]

/-- A bad instruction pointer is found on the image read ahead (45_iret.md R311, R312). -/
theorem realSegmentTests_of_bad_ip (hm : modeOf s = .realAddress)
    (hstack : withinStackLimits s 0 (3 * sz.bytes) = true)
    (hapic : touchesApic s (stackLinear s 0) sz.bytes = false)
    (hip : s.cs.hidden.limit.toNat < (frameIp s sz).toNat ∨ 2 ^ 16 ≤ (frameIp s sz).toNat) :
    realSegmentTests s sz = [.gp .none] := by
  have htest : stackTest s sz 0 3 .none = [] :=
    stackTest_of_withinStackLimits _ (by simp [inBits64, hm]) (by simpa using hstack)
  have hahead : readsIpAhead s sz = true := by
    simp [readsIpAhead, pageFaults_of_realAddress hm, hapic]
  have hbad : badRealIp s sz = true := by
    simp only [badRealIp, withinCsLimit, Bool.or_eq_true, Bool.not_eq_true', decide_eq_false_iff_not, decide_eq_true_eq]
    omega
  simp [realSegmentTests, htest, hahead, hbad]

/-- The segment tests of real-address mode know two exceptions, both without an error code. -/
theorem mem_realSegmentTests (h : f ∈ realSegmentTests s sz) : f = .ss .none ∨ f = .gp .none := by
  unfold realSegmentTests at h
  split_ifs at h with hstack hip
  · rw [(stackTest_eq_nil_or s sz 0 3 .none).resolve_left hstack] at h
    exact .inl (List.mem_singleton.1 h)
  · exact .inr (List.mem_singleton.1 h)
  · cases h

/-- Popping a group raises one of its segment tests or one of its memory faults. -/
theorem mem_of_popGroup_eq_fault {first count : Nat} {tests : List Fault}
    (h : popGroup s sz first count tests = .error (.fault f)) : f ∈ tests ++ frameFaults s sz first count := by
  by_cases hnil : tests ++ frameFaults s sz first count = []
  · cases hapic : frameTouchesApic s sz first count <;> simp [popGroup, hnil, hapic] at h
  · obtain ⟨g, hg, hraise⟩ := raiseOneOf_of_ne_nil (s := s) hnil
    rw [popGroup, hraise, Result.error_bind] at h
    cases h
    exact hg

theorem realAddressReturn_of_one_test (hm : modeOf s = .realAddress) (h : realSegmentTests s sz = [f]) :
    realAddressReturn s sz = .error (.fault f) := by
  rw [realAddressReturn, h, popGroup_of_one_test f (frameFaults_of_realAddress hm), Result.error_bind]

/-- A return in real-address mode raises nothing but a segment test: its reads do not fault (60_exceptions.md R381). -/
theorem mem_of_realAddressReturn_eq_fault (hm : modeOf s = .realAddress)
    (h : realAddressReturn s sz = .error (.fault f)) : f ∈ realSegmentTests s sz := by
  rw [realAddressReturn] at h
  cases hpop : popGroup s sz 0 3 (realSegmentTests s sz) with
  | ok u => rw [hpop] at h; cases h
  | error e =>
    rw [hpop] at h
    cases h
    simpa [frameFaults_of_realAddress hm] using mem_of_popGroup_eq_fault hpop

end RealAddressExceptions

/-- Settles O29: each clause is about the segment tests, since the reads of the frame do not fault. -/
theorem realModeReturnExceptions : Obligations.RealModeReturnExceptions := by
  intro s i sz hm hx hi hz
  rw [exec_of_returnSize hi (absurd · hz), interruptReturn_of_realAddress hx hm]
  simp only [finish_eq_fault]
  refine ⟨fun hstack => ?_, fun hstack hapic hip => ?_, fun f hf => ?_⟩
  · exact realAddressReturn_of_one_test hm (realSegmentTests_of_not_withinStackLimits hm hstack)
  · exact realAddressReturn_of_one_test hm (realSegmentTests_of_bad_ip hm hstack hapic hip)
  · exact mem_realSegmentTests (mem_of_realAddressReturn_eq_fault hm hf)

end Sys2Proof.Machine

/-! ### Privileged flags and the operating modes over a step -/

namespace Sys2Proof.Machine

/-- The flags that only a return at CPL 0 loads, beside the field IOPL (60_exceptions.md R396). -/
def Flag.Privileged (f : Flag) : Prop := f = .vm ∨ f = .vif ∨ f = .vip

section PrivilegedFlags

variable {s t : State} {sz : OpSize} {f : Flag}

/-! The privileged flags in the masks of 45_iret.md R341. -/

theorem Flag.Privileged.realMask_eq (hf : f.Privileged) (sz : OpSize) : (realMask sz).getLsbD f.bit = false := by
  obtain rfl | rfl | rfl := hf <;> cases sz <;> decide

theorem Flag.Privileged.v86Mask_eq (hf : f.Privileged) (sz : OpSize) : (v86Mask sz).getLsbD f.bit = false := by
  obtain rfl | rfl | rfl := hf <;> cases sz <;> decide

theorem Flag.Privileged.sameLevelMask_eq (hf : f.Privileged) {cpl : BitVec 2} (hcpl : cpl ≠ 0) (iopl : BitVec 2) :
    (sameLevelMask sz cpl iopl).getLsbD f.bit = false := by
  have hzero : (cpl == 0) = false := beq_eq_false_iff_ne.2 hcpl
  rw [sameLevelMask_flag]
  obtain rfl | rfl | rfl := hf <;> simp only [sameLevelLoads, hzero, Bool.false_and]

theorem Flag.Privileged.outerLevelMask_eq (hf : f.Privileged) {cpl : BitVec 2} (hcpl : cpl ≠ 0) (iopl : BitVec 2) :
    (outerLevelMask sz cpl iopl).getLsbD f.bit = false := by
  have hzero : (cpl == 0) = false := beq_eq_false_iff_ne.2 hcpl
  rw [outerLevelMask_flag]
  obtain rfl | rfl | rfl := hf <;> simp only [outerLevelLoads, hzero, Bool.false_and]

/-- In virtual-8086 mode IOPL is not loaded, whatever CPL is (45_iret.md R316). -/
theorem v86Mask_iopl (sz : OpSize) : (v86Mask sz).getLsbD 12 = false ∧ (v86Mask sz).getLsbD 13 = false := by
  cases sz <;> decide

/-- A flag outside the mask of a load is kept. -/
theorem flag_kept_of_not_mask {mask image : Dword} (h : mask.getLsbD f.bit = false) :
    flagOf (flagsLoaded s mask image) f = flagOf s.eflags f := by
  by_contra hne
  simp [mask_of_flag_changed hne] at h

/-- Of the states without privilege, those in which the checks on a code segment are made have CPL above 0. -/
theorem ReachesPrivilegeReturn.cpl_ne_zero {d : Descriptor} (h : ReachesPrivilegeReturn s sz d)
    (hpriv : modeOf s = .realAddress ∨ modeOf s = .virtual8086 ∨ s.cpl ≠ 0) : s.cpl ≠ 0 := by
  obtain hm | hm | hcpl := hpriv
  · simp [modeOf_eq_realAddress_iff, h.pe] at hm
  · exact absurd hm h.mode_ne_virtual8086
  · exact hcpl

/-- A return without privilege keeps VM, VIF and VIP: only at CPL 0, in protected or IA-32e mode, is one of them loaded
(45_iret.md R311, R316, R340, R351; 60_exceptions.md R396). -/
theorem Returned.privileged_flag_eq (h : Returned s sz t) (hf : f.Privileged)
    (hpriv : modeOf s = .realAddress ∨ modeOf s = .virtual8086 ∨ s.cpl ≠ 0) :
    flagOf t.eflags f = flagOf s.eflags f := by
  cases h with
  | real =>
    rw [realAddressNext_eflags]
    exact flag_kept_of_not_mask (hf.realMask_eq sz)
  | v86 =>
    rw [virtual8086Next_eflags]
    exact flag_kept_of_not_mask (hf.v86Mask_eq sz)
  | toV86 mode _ _ _ cpl => simp [mode, cpl] at hpriv
  | same d checks =>
    rw [sameLevelNext_eflags]
    exact flag_kept_of_not_mask (hf.sameLevelMask_eq (checks.cpl_ne_zero hpriv) _)
  | same64 d checks =>
    rw [sameLevelNext64_eflags]
    exact flag_kept_of_not_mask (hf.sameLevelMask_eq (checks.cpl_ne_zero hpriv) _)
  | outer d checks =>
    rw [outerLevelNext_eflags]
    exact flag_kept_of_not_mask (hf.outerLevelMask_eq (checks.cpl_ne_zero hpriv) _)

/-- Outside real-address mode a return at CPL above 0 keeps IOPL (45_iret.md R316, R340, R351; 60_exceptions.md
R396). -/
theorem Returned.iopl_eq (h : Returned s sz t) (hm : modeOf s ≠ .realAddress) (hcpl : s.cpl ≠ 0) :
    ioplOf t.eflags = ioplOf s.eflags := by
  cases h with
  | real mode => exact absurd mode hm
  | v86 =>
    obtain ⟨h12, h13⟩ := v86Mask_iopl sz
    rw [virtual8086Next_eflags, flagsLoaded, ioplOf_loadFlags _ _ _ _ false h12 h13]
    rfl
  | toV86 _ _ _ _ cpl => exact absurd cpl hcpl
  | same d => rw [sameLevelNext_eflags, ioplOf_flagsLoaded s _ fun _ => sameLevelMask_iopl _ _ _, if_neg hcpl]
  | same64 d => rw [sameLevelNext64_eflags, ioplOf_flagsLoaded s _ fun _ => sameLevelMask_iopl _ _ _, if_neg hcpl]
  | outer d => rw [outerLevelNext_eflags, ioplOf_flagsLoaded s _ fun _ => outerLevelMask_iopl _ _ _, if_neg hcpl]

/-- `Returned.privileged_flag_eq` over a step: CPUID keeps every flag. -/
theorem step_privileged_flag_eq (h : step s = .next t) (hf : f.Privileged)
    (hpriv : modeOf s = .realAddress ∨ modeOf s = .virtual8086 ∨ s.cpl ≠ 0) :
    flagOf t.eflags f = flagOf s.eflags f := by
  obtain rfl | ⟨i, sz, -, -, hr⟩ := step_cases h
  · rw [cpuidNext_eflags]
  · exact hr.privileged_flag_eq hf hpriv

end PrivilegedFlags

section Modes

variable {s t : State} {sz : OpSize}

/-- No step writes CR0.PE or IA32_EFER.LMA (60_exceptions.md R397). -/
theorem step_mode_bits_eq (h : step s = .next t) : t.cr.pe = s.cr.pe ∧ t.msr.lma = s.msr.lma := by
  obtain rfl | ⟨i, sz, -, -, hr⟩ := step_cases h
  · exact ⟨by rw [cpuidNext_cr], cpuidNext_lma _ _⟩
  · exact ⟨by rw [hr.cr_eq], by rw [hr.msr_eq]⟩

/-- A return enters virtual-8086 mode from protected mode at CPL 0 only, by an image with VM = 1 (45_iret.md R315,
R333). -/
theorem Returned.enters_virtual8086 (h : Returned s sz t) (ht : modeOf t = .virtual8086)
    (hs : modeOf s ≠ .virtual8086) :
    modeOf s = .protectedMode ∧ s.cpl = 0 ∧ flagOf (frameFlags s sz) .vm = true := by
  obtain ⟨hpe, hlma, hvm⟩ := modeOf_eq_virtual8086_iff.1 ht
  rw [h.cr_eq] at hpe
  rw [h.msr_eq] at hlma
  obtain hold | ⟨hprot, rfl⟩ := h.vm_cases hvm
  · exact absurd (modeOf_eq_virtual8086_iff.2 ⟨hpe, hlma, hold⟩) hs
  · obtain ⟨-, -, hold⟩ := modeOf_eq_protectedMode_iff.1 hprot
    refine ⟨hprot, ?_, ?_⟩
    · by_contra hcpl
      rw [h.privileged_flag_eq (.inl rfl) (.inr (.inr hcpl)), hold] at hvm
      cases hvm
    · simpa [show maskNamed.getLsbD Flag.vm.bit = true by decide] using hvm

/-- The step that enters virtual-8086 mode is IRETD: VM is beyond IRET's image, and IRETQ runs in 64-bit mode only
(30_encoding.md R93; 45_iret.md R303). -/
theorem step_enters_virtual8086 (h : step s = .next t) (ht : modeOf t = .virtual8086)
    (hs : modeOf s ≠ .virtual8086) :
    fetchInstr s = .ok .iretd ∧ modeOf s = .protectedMode ∧ s.cpl = 0 ∧ flagOf (frameFlags s .w32) .vm = true := by
  obtain ⟨i, hfetch, hexec⟩ := step_next_cases h
  obtain ⟨-, rfl, -⟩ | ⟨-, hr⟩ | ⟨rfl, hr⟩ | ⟨-, hb, hr⟩ := exec_next_cases hexec
  · exact absurd (modeOf_cpuidNext s _ ▸ ht) hs
  · obtain ⟨-, -, hvm⟩ := hr.enters_virtual8086 ht hs
    rw [flagOf_frameFlags_w16 (by decide)] at hvm
    cases hvm
  · exact ⟨hfetch, hr.enters_virtual8086 ht hs⟩
  · obtain ⟨hprot, -⟩ := hr.enters_virtual8086 ht hs
    simp [inBits64, hprot] at hb

end Modes

/-- Settles O55: a mode is CR0.PE, IA32_EFER.LMA, VM and the L-bit of CS; the first two stay, and VM stays in
virtual-8086 mode. -/
theorem modeTransitions : Obligations.ModeTransitions := by
  intro s t hstep
  obtain ⟨hpe, hlma⟩ := step_mode_bits_eq hstep
  refine ⟨hpe, hlma, step_enters_virtual8086 hstep, fun hv86 => ?_, fun hreal => ?_, fun hpe' hlma' => ?_⟩
  · have hvm := step_privileged_flag_eq hstep (.inl rfl) (.inr (.inl hv86))
    rwa [modeOf_eq_virtual8086_iff, hpe, hlma, hvm, ← modeOf_eq_virtual8086_iff]
  · rwa [modeOf_eq_realAddress_iff, hpe, ← modeOf_eq_realAddress_iff]
  · rw [modeOf_eq_bits64_iff, hpe, hlma]
    simp [hpe', hlma']

/-- Settles O58: no mask without privilege holds one of them. -/
theorem privilegedFlagsNeedCplZero : Obligations.PrivilegedFlagsNeedCplZero := by
  intro s t hstep
  refine ⟨fun hm hcpl => ?_, fun hpriv => ?_⟩
  · obtain rfl | ⟨i, sz, -, -, hr⟩ := step_cases hstep
    · rw [cpuidNext_eflags]
    · exact hr.iopl_eq hm hcpl
  · have hkept {f : Flag} (hf : f.Privileged) : flagOf t.eflags f = flagOf s.eflags f :=
      step_privileged_flag_eq hstep hf (hpriv.imp_right .inr)
    exact ⟨hkept (.inl rfl), hkept (.inr (.inl rfl)), hkept (.inr (.inr rfl))⟩

end Sys2Proof.Machine

/-! ### What a launch supplies stays over a step -/

namespace Sys2Proof.Machine

/-- Settles O59: the frame of CPUID, which loads IA32_BIOS_SIGN_ID alone of the MSRs (40_cpuid.md R120), and the frame of
every path of an interrupt return (45_iret.md R300, implicit outputs). -/
theorem stepLeavesLaunchConstants : Obligations.StepLeavesLaunchConstants := by
  intro s t hstep
  obtain rfl | ⟨i, sz, -, -, hr⟩ := step_cases hstep
  · exact ⟨fun a => by rw [cpuidNext_mem], cpuidNext_cfg .., cpuidNext_cr .., cpuidNext_tables .., cpuidNext_plat ..,
      by rw [cpuidNext_msr]⟩
  · obtain ⟨hmem, hcr, hmsr, htables, hplat, hcfg⟩ := hr.frame
    exact ⟨fun a => by rw [hmem], hcfg, hcr, htables, hplat, by rw [hmsr]⟩

end Sys2Proof.Machine
